-- ==== Sys2Proof/Word.lean ====
section
/-!
DEFINITION. The word types of the Usorca 3208: what the manual counts modulo a power of two, or sends as bits.
-/
namespace Sys2Proof

/-- A byte on either port (09 R152, R153). -/
abbrev Byte := BitVec 8

/-- Uptime: a count of microseconds modulo 2^48 (R88). Every deadline is an uptime. -/
abbrev Uptime := BitVec 48

/-- A record sequence number, 32 bits, counted modulo 2^32 (00, "Sequence arithmetic"). -/
abbrev Seq := BitVec 32

/-- A rule-set generation: 0 before the first switch, then 1 to 65,535 (00 Table 0-4). -/
abbrev Generation := BitVec 16

/-- An incident id, 1 to 65,535 (00 Table 0-4). -/
abbrev IncidentId := BitVec 16

/-- A session number, 1 to 255 (00 Table 0-4). -/
abbrev SessionNumber := BitVec 8

/-- One of the 32 lines (00, "Names"). -/
abbrev LineNo := Fin 32

/-- One of the 16 incident groups. -/
abbrev GroupNo := Fin 16

/-- One of the 8 incident slots or of the 8 exception slots. -/
abbrev SlotNo := Fin 8

/-- A class, 0 to 7. -/
abbrev ClassNo := Fin 8

/-- A line set, bit n set when line n is in it (R170). -/
abbrev LineSet := BitVec 32

/-- A class set or a slot set, bit n for class or slot n (R170). -/
abbrev ByteSet := BitVec 8

/-- The counter after `n` where the successor of the largest value is 1 (00 Table 0-4: incident id, generation,
session number). -/
def nextSkippingZero {w : Nat} (n : BitVec w) : BitVec w :=
  if n + 1 = 0 then 1 else n + 1

end Sys2Proof
end

