-- ==== Sys2Proof/Config.lean ====
section
/-!
DEFINITION. What the part fixes: its capacities, its limits and its fixed times, each from the rule named beside it.
The spec leaves no result of a command without a value, so no free value is declared here.
-/
namespace Sys2Proof.Config

/-- Records the journal holds at most (R1). -/
abbrev journalCapacity : Nat := 2048

/-- The largest distance of a held record or a reader point below the next sequence number (R2). -/
abbrev seqBand : Nat := 2064

/-- Entries the event FIFO holds at most (R75). -/
abbrev fifoCapacity : Nat := 64

/-- Requests a port's queue holds at most (R156). -/
abbrev requestCapacity : Nat := 4

/-- ALERT frames of a session that wait at most (R141). -/
abbrev alertCapacity : Nat := 4

/-- Records a RECORDS frame or a READ_RECORDS reply carries at most (R29, R23). -/
abbrev recordsPerFrame : Nat := 4

/-- Incident slots a LIST_INCIDENTS reply carries at most (R61). -/
abbrev slotsPerReply : Nat := 4

/-- Retransmit expiries at which a reader stalls (R33). -/
abbrev retryLimit : Nat := 8

/-- The largest reader window (R28). -/
abbrev maxWindow : Nat := 16

/-- The largest payload of a frame (09, section 9.2). -/
abbrev maxPayload : Nat := 250

/-- The SYNC byte of a frame (R169). -/
abbrev syncByte : Byte := 0xC3

/-- The filler byte of Port B (R153). -/
abbrev fillerByte : Byte := 0x00

/-- The gap limit of a collection, 5 ms in microseconds (R154). -/
abbrev gapLimitUs : Nat := 5000

/-- The restart timer, 50 ms in microseconds (R166). -/
abbrev restartUs : Nat := 50000

/-- The pulse guard, 500 ms in microseconds (R94). -/
abbrev pulseGuardUs : Nat := 500000

/-- The missing-pulse timer, 1,500 ms in microseconds (R98). -/
abbrev missingPulseUs : Nat := 1500000

/-- Good pulses in a row that lock the time (R96). -/
abbrev goodToLock : Nat := 3

/-- Outliers that drop LOCKED to FREE (R97). -/
abbrev outliersToFree : Nat := 3

/-- The largest value of a field of four bytes, at which counts and intervals are held (R17, R55, R102). -/
abbrev max32 : Nat := 4294967295

/-- The part code of IDENTIFY (R172). -/
abbrev partCode : Nat := 0x3208

/-- The revision of IDENTIFY (R172). -/
abbrev revision : Nat := 0x01

/-- The protocol version OPEN accepts (R172). -/
abbrev protocolVersion : Nat := 1

end Sys2Proof.Config
end

