-- ==== Sys2Proof/Syntax.lean ====
section
/-!
DEFINITION. The commands of the block: one constructor of `Instr` for each row of spec/opcode_table.json, and the names
of the outside world that commands carry (ports, pins, straps).
-/
namespace Sys2Proof

/-- The two host ports (09). The reader of a port has the port's name (02). -/
inductive Port where
  | a
  | b
deriving DecidableEq, Repr

/-- The direction of a transition or of a selected edge of IN31/SYNC (R94, Table 5-3). -/
inductive SyncEdge where
  | rising
  | falling
deriving DecidableEq, Repr

/-- The levels on the rate straps (R152, Table 9-2); `true` is high. -/
structure Straps where
  baud1 : Bool
  baud0 : Bool
deriving DecidableEq, Repr

/-- The steps of the part, one constructor for each row of spec/opcode_table.json.

The request rows carry the port alone. A request reaches a block only through its port's request queue (R156, R157),
and its fields are in the queued payload (Table 10-4); so the command says that the session layer of that port takes
its oldest request, which is of the row's kind (log 1). -/
inductive Instr where
  /-- POWER_ON_RESET: the supply rises; `straps` are the pin levels as the reset ends (R25, R152). -/
  | powerOnReset (straps : Straps)
  /-- PIN_RESET: nRESET is driven low and released (R25, R152). -/
  | pinReset (straps : Straps)
  /-- RESTART_TIMER_EXPIRY: the 50 ms restart timer expires and the reset follows (R166). -/
  | restartTimerExpiry (straps : Straps)
  /-- RECEIVE_BYTE: a byte reaches the port's frame receiver; `stopLow` says that its stop bit reads low, which a
  Port A byte alone can have (R152, R153, R154). -/
  | receiveByte (port : Port) (byte : Byte) (stopLow : Bool)
  /-- SELECTION_END: nCS goes high; `bits` are the bits of a byte clocked in but not completed (R153). -/
  | selectionEnd (bits : List Bool)
  /-- GAP_TIMER_EXPIRY: the inter-byte gap timer of the port's collection expires (R154). -/
  | gapTimerExpiry (port : Port)
  /-- TRANSMIT_FRAME_BEGIN: the port's transmitter picks the next frame and it begins (R159). -/
  | transmitFrameBegin (port : Port)
  /-- TRANSMIT_FRAME_COMPLETE: the last CRC byte has left; `straps` matter when a reset follows (R159, R166). -/
  | transmitFrameComplete (port : Port) (straps : Straps)
  /-- UNKNOWN_KIND_REQUEST (R157). -/
  | unknownKindRequest (port : Port)
  /-- IDENTIFY (R161). -/
  | identify (port : Port)
  /-- OPEN (R160). -/
  | openSession (port : Port)
  /-- CLOSE (R162). -/
  | closeSession (port : Port)
  /-- PING (R161). -/
  | ping (port : Port)
  /-- CLAIM (R165). -/
  | claim (port : Port)
  /-- RELEASE (R165). -/
  | releaseClaim (port : Port)
  /-- RESTART (R166). -/
  | restart (port : Port)
  /-- SESSION_TIMER_EXPIRY (R163). -/
  | sessionTimerExpiry (port : Port)
  /-- READ_RECORDS (R23). -/
  | readRecords (port : Port)
  /-- GET_JOURNAL_STATUS (R24). -/
  | getJournalStatus (port : Port)
  /-- CLEAR_JOURNAL (R21). -/
  | clearJournal (port : Port)
  /-- SET_JOURNAL_MODE (R22). -/
  | setJournalMode (port : Port)
  /-- SUBSCRIBE (R28). -/
  | subscribe (port : Port)
  /-- RESUME (R38). -/
  | resume (port : Port)
  /-- UNSUBSCRIBE (R39). -/
  | unsubscribe (port : Port)
  /-- ACK (R32). -/
  | ack (port : Port)
  /-- DROP_READER (R40). -/
  | dropReader (port : Port)
  /-- QUEUE_RECORDS_FRAME: the port's reader queues a RECORDS frame (R29). -/
  | queueRecordsFrame (port : Port)
  /-- QUEUE_GAP_FRAME: the port's reader queues a GAP frame (R42). -/
  | queueGapFrame (port : Port)
  /-- RETRANSMIT_TIMER_EXPIRY (R33). -/
  | retransmitTimerExpiry (port : Port)
  /-- LIST_INCIDENTS (R61). -/
  | listIncidents (port : Port)
  /-- CLOSE_INCIDENT (R60). -/
  | closeIncident (port : Port)
  /-- QUIET_TIMER_EXPIRY of the incident in the slot (R56). -/
  | quietTimerExpiry (slot : SlotNo)
  /-- DURATION_TIMER_EXPIRY of the incident in the slot (R57). -/
  | durationTimerExpiry (slot : SlotNo)
  /-- SAMPLE_INSTANT: bit i of `pins` is the level of pin IN i, set when high (R65). -/
  | sampleInstant (pins : BitVec 32)
  /-- CHATTER_WINDOW_EXPIRY (R70). -/
  | chatterWindowExpiry (line : LineNo)
  /-- RELEASE_TIMER_EXPIRY (R73). -/
  | releaseTimerExpiry (line : LineNo)
  /-- HELD_ENTRY_ADMISSION (R79). -/
  | heldEntryAdmission
  /-- GET_LINES (R81). -/
  | getLines (port : Port)
  /-- TAKE_SNAPSHOT (R80). -/
  | takeSnapshot (port : Port)
  /-- CLASSIFIER_TAKE_ENTRY: an entry is taken, or the one in hand is carried on with (R113, log 16). -/
  | classifierTakeEntry
  /-- DEFERRED_SNAPSHOT_BUILD (R118). -/
  | deferredSnapshotBuild
  /-- SYNC_EDGE: a transition of the raw level of IN31 in the given direction (R94). -/
  | syncEdge (edge : SyncEdge)
  /-- MISSING_PULSE_TIMER_EXPIRY (R98). -/
  | missingPulseTimerExpiry
  /-- HOLDOVER_TIMER_EXPIRY (R99). -/
  | holdoverTimerExpiry
  /-- GET_TIME (R102). -/
  | getTime (port : Port)
  /-- SET_TIME (R91). -/
  | setTime (port : Port)
  /-- SET_TIME_OPTIONS (R92). -/
  | setTimeOptions (port : Port)
  /-- READ_RULE (R111). -/
  | readRule (port : Port)
  /-- WRITE_LINE_RULE (R107). -/
  | writeLineRule (port : Port)
  /-- WRITE_GROUP_RULE (R108). -/
  | writeGroupRule (port : Port)
  /-- WRITE_GLOBAL_RULE (R108). -/
  | writeGlobalRule (port : Port)
  /-- COPY_ACTIVE_TO_STAGED (R109). -/
  | copyActiveToStaged (port : Port)
  /-- SWITCH_RULES (R123). -/
  | switchRules (port : Port)
  /-- VALIDATION_COMPLETION; `syncRead` is the SYNC enable value that the check of line 31 read (R124, log 12). -/
  | validationCompletion (syncRead : Bool)
  /-- SWITCH_INSTANT (R130). -/
  | switchInstant
  /-- ABORT_SWITCH (R133). -/
  | abortSwitch (port : Port)
  /-- GET_SWITCH_STATUS (R135). -/
  | getSwitchStatus (port : Port)
  /-- CLEAR_ALERT (R142). -/
  | clearAlert (port : Port)
  /-- SET_SESSION_OPTIONS (R144). -/
  | setSessionOptions (port : Port)
  /-- GET_EXCEPTIONS (R149). -/
  | getExceptions (port : Port)
  /-- CLEAR_EXCEPTION (R150). -/
  | clearException (port : Port)
deriving DecidableEq, Repr

end Sys2Proof
end

