-- ==== Sys2Proof/Decode.lean ====
section
/-!
DEFINITION. The command a word spells by the bits of spec/opcode_table.json. No row of the table has bits (each row's
"fields" is empty and none has a "fixed"), so no word spells a command. The bytes of request frames are read by the
frame receiver (Machine/Ports.lean) and the fields of requests by Machine/Operands.lean.
-/
namespace Sys2Proof

/-- No row of the table gives bits, so every word is refused. -/
def decodeTableWord (_nbits _w : Nat) : Option Instr := none

end Sys2Proof
end

