-- ==== Sys2Proof/Machine/State.lean ====
section
/-!
DEFINITION. The state of the part, as plain data: every item of the state tables of chapters 1 to 9, the queue of
waiting commands, and the state after a POWER_ON reset. INVENTORY.md lists each item with its rule and reset value.
-/
namespace Sys2Proof.Machine

/-! ### Values shared by the blocks -/

/-- A logical level, after the line's polarity (00, "Levels"). -/
inductive Level where
  | low
  | high
deriving DecidableEq, Repr

/-- The time of day (R89). -/
structure TimeOfDay where
  seconds : BitVec 32
  micros : Fin 1000000
deriving DecidableEq, Repr

/-- The time quality (05, section 5.2). -/
inductive Quality where
  | unset
  | free
  | locked
  | holdover
deriving DecidableEq, Repr

/-- A stamp: a time of day with the quality at the moment it was read (00, "Time"). -/
structure Stamp where
  time : TimeOfDay
  quality : Quality
deriving DecidableEq, Repr

/-- One value for each port (or for each port's reader). -/
structure PerPort (α : Type) where
  a : α
  b : α
deriving DecidableEq, Repr

/-- The value of port `p`. -/
def PerPort.get {α : Type} (v : PerPort α) : Port → α
  | .a => v.a
  | .b => v.b

/-- `v` with the value of port `p` replaced. -/
def PerPort.set {α : Type} (v : PerPort α) (p : Port) (x : α) : PerPort α :=
  match p with
  | .a => ⟨x, v.b⟩
  | .b => ⟨v.a, x⟩

/-- A session, by its port and session number (R123, R165). -/
structure Holder where
  port : Port
  session : SessionNumber
deriving DecidableEq, Repr

/-- The cause of a reset (00 Table 0-5). -/
inductive ResetCause where
  | powerOn
  | pin
  | requestFull
  | requestKeepTime
deriving DecidableEq, Repr

/-! ### Rules (06, 03) -/

inductive Mode where
  | off
  | capture
deriving DecidableEq, Repr

inductive Polarity where
  | normal
  | inverted
deriving DecidableEq, Repr

/-- The edges field of a line entry (Table 6-5). -/
inductive Edges where
  | rising
  | falling
  | both
  | none
deriving DecidableEq, Repr

/-- A line's part in incidents (Table 6-2). -/
inductive Role where
  | none
  | openOrJoin
  | joinOnly
  | close
deriving DecidableEq, Repr

/-- A line entry, the eleven fields of Table 6-2. -/
structure LineRule where
  mode : Mode
  polarity : Polarity
  debounce : Nat
  chatterLimit : Nat
  chatterWindowMs : Nat
  chatterReleaseMs : Nat
  edges : Edges
  cls : ClassNo
  alert : Bool
  group : Option GroupNo
  role : Role
deriving DecidableEq, Repr

/-- A group entry (Table 3-5). -/
structure GroupRule where
  settleMs : Nat
  maxDurationMs : Nat
  memberLimit : Nat
deriving DecidableEq, Repr

/-- The global entry: the sample period, one of four (R106). -/
inductive SamplePeriod where
  | us50
  | us100
  | us250
  | us500
deriving DecidableEq, Repr

/-- A bank: 32 line entries, 16 group entries and the global entry (R105). -/
structure Bank where
  lines : Vector LineRule 32
  groups : Vector GroupRule 16
  period : SamplePeriod
deriving DecidableEq, Repr

/-- The rule store (Table 6-1). -/
structure RuleStore where
  active : Bank
  staged : Bank
  generation : Generation
deriving DecidableEq, Repr

/-! ### Records (01, 10) -/

/-- The close reason of an incident (Table 3-4). -/
inductive CloseReason where
  | settled
  | duration
  | memberLimit
  | line
  | host
  | ruleset
deriving DecidableEq, Repr

/-- The body of an INCIDENT_CLOSE record (R11, Table 3-7). -/
structure CloseBody where
  id : IncidentId
  group : GroupNo
  reason : CloseReason
  openingLine : LineNo
  members : Nat
  memberSet : LineSet
  firstStamp : Stamp
  lastStamp : Stamp
  spanUs : Nat
  openUs : Nat
  highest : ClassNo
deriving DecidableEq, Repr

/-- The counting fields of an OVERFLOW marker (R16, R17). -/
structure MarkerCounts where
  firstStamp : Stamp
  lastStamp : Stamp
  records : Nat
  alerts : Nat
  classes : ByteSet
deriving DecidableEq, Repr

/-- The body of a record; the constructor is its kind (Table 1-5). -/
inductive RecordBody where
  | lineChange (line : LineNo) (level : Level) (cls : ClassNo) (incident : Option IncidentId)
  | chatterOn (line : LineNo) (level : Level) (count : Nat) (cls : ClassNo)
  | chatterOff (line : LineNo) (lockLevel : Level) (releaseLevel : Level) (cls : ClassNo)
  | incidentClose (c : CloseBody)
  | overflow (m : MarkerCounts)
  | timeSet (old new : TimeOfDay) (oldQuality : Quality)
  | timeStep (correctionUs : Int)
  | qualityChange (old new : Quality)
  | rulesetSwitch (old new : Generation) (closed : Nat)
  | snapshot (highSet lockedSet offSet : LineSet) (port : Port)
  | cleared (removed : Nat) (range : Option (Seq × Seq))
  | restarted (cause : ResetCause) (timeKept : Bool)
deriving DecidableEq, Repr

/-- The header flags (Table 1-4); `markerOpen` is OPEN. -/
structure RecordFlags where
  alert : Bool := false
  opensIncident : Bool := false
  afterChatter : Bool := false
  wasHeld : Bool := false
  markerOpen : Bool := false
deriving DecidableEq, Repr

/-- A record: the header of Table 1-3 and its body. -/
structure Record where
  seq : Seq
  stamp : Stamp
  generation : Generation
  flags : RecordFlags
  body : RecordBody
deriving DecidableEq, Repr

inductive JournalMode where
  | halt
  | wrap
deriving DecidableEq, Repr

/-- The journal (Table 1-1). The marker is the newest held record while its OPEN flag is set. -/
structure Journal where
  held : List Record
  next : Seq
  mode : JournalMode
deriving DecidableEq, Repr

/-! ### Readers (02) -/

/-- The states of a reader that is not UNSUBSCRIBED (02, section 2.1). -/
inductive SubState where
  | active
  | stalled
  | dormant
deriving DecidableEq, Repr

/-- What a reader that is not UNSUBSCRIBED holds (Table 2-1). Its waiting frame is in its port's transmit queue. -/
structure Subscription where
  state : SubState
  ack : Seq
  send : Seq
  window : Nat
  timeoutMs : Nat
  retry : Nat
  retain : Bool
  timer : Option Uptime
  gap : Option (Seq × Seq)
deriving DecidableEq, Repr

/-- The four reader states as replies name them (Table 10-2). -/
inductive ReaderState where
  | unsubscribed
  | active
  | stalled
  | dormant
deriving DecidableEq, Repr

/-! ### Lines and the event FIFO (04) -/

/-- A CHANGE entry (Table 4-4). `lockCount` is the chatter count, present when LOCKS_OUT is set. -/
structure ChangeEntry where
  line : LineNo
  level : Level
  stamp : Stamp
  uptime : Uptime
  lockCount : Option Nat
  wasHeld : Bool
deriving DecidableEq, Repr

/-- A RELEASE entry (Table 4-4). -/
structure ReleaseEntry where
  line : LineNo
  lockLevel : Level
  releaseLevel : Level
  stamp : Stamp
  uptime : Uptime
  wasHeld : Bool
deriving DecidableEq, Repr

/-- An entry the front end makes. -/
inductive FrontEntry where
  | change (e : ChangeEntry)
  | release (e : ReleaseEntry)
deriving DecidableEq, Repr

/-- An entry of the event FIFO: a front-end entry, or a SNAPSHOT_MARKER with the port that asked (Table 4-4). -/
inductive FifoEntry where
  | front (e : FrontEntry)
  | marker (port : Port)
deriving DecidableEq, Repr

/-- The line states with what each holds (Table 4-1). -/
inductive LinePhase where
  | off
  | idle
  | confirming (count : Nat) (stamp : Stamp) (uptime : Uptime)
  | lockedOut (level : Level)
deriving DecidableEq, Repr

/-- The front end's state of one line (Table 4-1). `raw` is the pin's level as last sampled, `true` when high.
`latest` is the logical level of the latest sample, under the polarity in force at it (log 8). -/
structure Line where
  raw : Bool
  latest : Level
  settled : Level
  phase : LinePhase
  chatterCount : Nat
  window : Option Uptime
  release : Option Uptime
  held : Option FrontEntry
deriving DecidableEq, Repr

/-! ### Time base (05) -/

/-- The time options (Table 5-3). -/
structure TimeOptions where
  syncEnable : Bool
  syncEdge : SyncEdge
  windowUs : Nat
  holdoverLimitS : Nat
  stepThresholdUs : Nat
deriving DecidableEq, Repr

/-- A running holdover timer: the uptime at which HOLDOVER was entered, and the deadline (R93, R99). -/
structure HoldoverTimer where
  entered : Uptime
  deadline : Uptime
deriving DecidableEq, Repr

/-- The time base (Table 5-1). -/
structure TimeBase where
  uptime : Uptime
  timeOfDay : TimeOfDay
  quality : Quality
  goodCount : Nat
  outlierCount : Nat
  lastPulse : Option Uptime
  lastCorrection : Option Int
  missingPulse : Option Uptime
  holdover : Option HoldoverTimer
  options : TimeOptions
deriving DecidableEq, Repr

/-! ### Switch controller (07) -/

/-- The kind of an entry of a bank (Table 10-2). -/
inductive EntryKind where
  | line
  | group
  | global
deriving DecidableEq, Repr

/-- The reason of a rejection (Table 7-3). -/
inductive RejectReason where
  | roleWithoutGroup
  | syncConflict
  | chatterUnreachable
  | groupNeverOpens
  | durationBelowSettle
deriving DecidableEq, Repr

/-- The details of SWITCHED (Table 7-1). -/
structure SwitchDetails where
  old : Generation
  new : Generation
  closed : Nat
  recordSeq : Option Seq
deriving DecidableEq, Repr

/-- The details of REJECTED (Table 7-1). -/
structure Rejection where
  kind : EntryKind
  index : Nat
  reason : RejectReason
deriving DecidableEq, Repr

/-- The last outcome of the switch controller, with its details (Table 7-1). -/
inductive SwitchOutcome where
  | none
  | switched (d : SwitchDetails)
  | rejected (r : Rejection)
  | aborted
deriving DecidableEq, Repr

/-- The states of the switch controller (R122). In VALIDATING it notes which values the SYNC enable option has had
since validation began, one of which the check of line 31 reads (R124, log 12). -/
inductive SwitchPhase where
  | idle
  | validating (sawSyncOn sawSyncOff : Bool)
  | draining
deriving DecidableEq, Repr

/-- The switch controller (Table 7-1). -/
structure SwitchController where
  phase : SwitchPhase
  requester : Option Holder
  outcome : SwitchOutcome
deriving DecidableEq, Repr

/-! ### Classifier (06) and incident unit (03) -/

/-- A SNAPSHOT_MARKER kept in hand: its port and the OFF lines read with it (R118). -/
structure MarkerInHand where
  port : Port
  offSet : LineSet
deriving DecidableEq, Repr

/-- A change as the classifier reads it from a CHANGE entry, or from a RELEASE entry, whose change is one after chatter
(R115, R117). -/
structure EdgeInfo where
  line : LineNo
  level : Level
  stamp : Stamp
  uptime : Uptime
  wasHeld : Bool
  afterChatter : Bool
deriving DecidableEq, Repr

/-- A record that the classifier has still to build from the entry in hand: the LINE_CHANGE after a CHATTER_OFF (R117),
the INCIDENT_CLOSE that came with the answer of the entry's incident call (R115), or CHATTER_ON (R116). -/
inductive RecordToBuild where
  | lineChange
  | incidentClose (c : CloseBody)
  | chatterOn (count : Nat)
deriving DecidableEq, Repr

/-- A CHANGE or RELEASE entry in hand: the ACTIVE line entry read when it was taken, the records not yet offered, and
whether its incident call has been taken, so that the incident unit's action is in progress (R49, R113). -/
structure EntryInHand where
  edge : EdgeInfo
  rule : LineRule
  left : List RecordToBuild
  called : Bool
deriving DecidableEq, Repr

/-- What the classifier holds: a marker that waits for priming, or an entry whose records are not all taken by the
journal (R113, R118). -/
inductive InHand where
  | marker (m : MarkerInHand)
  | entry (h : EntryInHand)
deriving DecidableEq, Repr

/-- The classifier (Table 6-4). Bit i of each set is line i: classified level HIGH, lockout flag, awaiting priming. -/
structure Classifier where
  levels : LineSet
  lockouts : LineSet
  awaiting : LineSet
  inHand : Option InHand
deriving DecidableEq, Repr

/-- What an OPEN slot holds (Table 3-2). The deadlines are those of its quiet and duration timers. -/
structure Incident where
  id : IncidentId
  group : GroupNo
  openingLine : LineNo
  firstStamp : Stamp
  firstUptime : Uptime
  lastStamp : Stamp
  lastUptime : Uptime
  openingUptime : Uptime
  members : Nat
  memberSet : LineSet
  highest : ClassNo
  quietDeadline : Uptime
  durationDeadline : Option Uptime
deriving DecidableEq, Repr

/-- The incident unit (Table 3-1). -/
structure IncidentUnit where
  slots : Vector (Option Incident) 8
  nextId : IncidentId
deriving DecidableEq, Repr

/-! ### Alerts and exceptions (08) -/

/-- The alert unit (Table 8-1). `aged` marks a latest alert that lies more than 2,064 below the next sequence number,
however far the numbers have run since (R142, log 19). -/
structure AlertUnit where
  pending : Bool
  latest : Option Seq
  aged : Bool
  nAlertLow : Bool
deriving DecidableEq, Repr

/-- The exception kinds (Table 8-5). -/
inductive ExceptionKind where
  | eventsHeld
  | incidentTableFull
  | journalFull
  | recordsOverwritten
  | chatterLock
  | timeDegraded
  | deliveryStalled
  | linkError
  | sessionLost
  | switchRejected
deriving DecidableEq, Repr

/-- The subject of an exception (Table 8-5). -/
inductive ExceptionSubject where
  | none
  | line (line : LineNo)
  | group (group : GroupNo)
  | port (port : Port)
deriving DecidableEq, Repr

/-- An occupied slot of the exception table (Table 8-3). -/
structure ExceptionSlot where
  kind : ExceptionKind
  subject : ExceptionSubject
  first : Uptime
  last : Uptime
  count : Nat
deriving DecidableEq, Repr

/-- The exception table (Table 8-3). -/
structure ExceptionTable where
  slots : Vector (Option ExceptionSlot) 8
  overflow : Bool
deriving DecidableEq, Repr

/-! ### Frames (09, 10) -/

/-- The statuses of Table 10-5. -/
inductive Status where
  | ok
  | accepted
  | noSession
  | badVersion
  | notClaimant
  | heldByOther
  | busy
  | badLength
  | badValue
  | unknownKind
  | notHeld
  | notSubscribed
  | badAck
  | stale
  | tooLate
  | notInProgress
  | notOpen
  | journalFull
  | syncConflict
  | queueFull
deriving DecidableEq, Repr

/-- The claim as a session sees it (Table 10-2). -/
inductive ClaimState where
  | free
  | held
  | heldByOther
deriving DecidableEq, Repr

/-- A reader as GET_JOURNAL_STATUS reports it (R24, Table 10-3). -/
structure ReaderReport where
  state : ReaderState
  points : Option (Seq × Seq × Nat)
deriving DecidableEq, Repr

/-- The reply of GET_JOURNAL_STATUS (R24). -/
structure JournalReport where
  mode : JournalMode
  count : Nat
  oldest : Option Seq
  next : Seq
  markerOpen : Bool
  readerA : ReaderReport
  readerB : ReaderReport
deriving DecidableEq, Repr

/-- An OPEN slot as LIST_INCIDENTS reports it (R61, Table 10-3). -/
structure IncidentReport where
  slot : SlotNo
  incident : Incident
  quietRemainingUs : Nat
  durationRemainingUs : Option Nat
deriving DecidableEq, Repr

/-- The line states as GET_LINES names them (Table 10-2). -/
inductive LineState where
  | off
  | idle
  | confirming
  | lockedOut
deriving DecidableEq, Repr

/-- A line as GET_LINES reports it (R81). -/
structure LineReport where
  raw : Bool
  settled : Level
  state : LineState
  held : Bool
  chatterCount : Nat
deriving DecidableEq, Repr

/-- The reply of GET_TIME (R102). -/
structure TimeReport where
  timeOfDay : TimeOfDay
  quality : Quality
  uptime : Uptime
  lastCorrection : Option Int
  goodCount : Nat
  outlierCount : Nat
  sinceLastPulseUs : Option Nat
  options : TimeOptions
deriving DecidableEq, Repr

/-- The two banks as READ_RULE names them (R111). -/
inductive BankName where
  | active
  | staged
deriving DecidableEq, Repr

/-- An entry of a bank (R106). -/
inductive RuleEntry where
  | line (r : LineRule)
  | group (r : GroupRule)
  | global (p : SamplePeriod)
deriving DecidableEq, Repr

/-- The reply of READ_RULE (R111). -/
structure RuleReport where
  bank : BankName
  kind : EntryKind
  index : Nat
  generation : Generation
  inProgress : Bool
  entry : RuleEntry
deriving DecidableEq, Repr

/-- The states of the switch controller as GET_SWITCH_STATUS names them (Table 10-2). -/
inductive SwitchState where
  | idle
  | validating
  | draining
deriving DecidableEq, Repr

/-- The reply of GET_SWITCH_STATUS (R135). -/
structure SwitchReport where
  state : SwitchState
  requester : Option Holder
  outcome : SwitchOutcome
  generation : Generation
  fifoCount : Nat
  heldSet : LineSet
deriving DecidableEq, Repr

/-- The fields of a reply after its two-byte header, by request kind (Table 10-4, R171). -/
inductive ReplyBody where
  | none
  | identify (cause : ResetCause) (uptime : Uptime) (session : Option SessionNumber)
  | opened (number : SessionNumber) (reader : ReaderState) (claim : ClaimState)
  | uptime (u : Uptime)
  | claim (c : ClaimState)
  | records (rs : List Record)
  | journal (r : JournalReport)
  | points (ack send : Seq)
  | resumed (ack send : Seq) (window : Nat) (gapPending : Bool)
  | ackPoint (ack : Seq)
  | incidents (nextId : IncidentId) (openCount : Nat) (given : List IncidentReport) (nextSlot : Option SlotNo)
  | lines (ls : List LineReport) (fifoCount : Nat)
  | time (r : TimeReport)
  | rule (r : RuleReport)
  | switchStatus (r : SwitchReport)
  | alert (pending : Bool) (latest : Option Seq)
  | options (alertFrames : Bool) (threshold : ClassNo) (notices : Bool) (withdrawn : Nat) (pending : Bool)
      (latest : Option Seq)
  | exceptions (slots : List (Option ExceptionSlot)) (overflow : Bool) (lowest : Option SlotNo)
  | occupied (slots : ByteSet) (overflow : Bool)
deriving DecidableEq, Repr

/-- A reply: the KIND and TAG of the request, the status and the reply fields (R157, R171). -/
structure Reply where
  kind : Byte
  tag : Byte
  status : Status
  body : ReplyBody
deriving DecidableEq, Repr

/-- What an ALERT frame carries (R140, Table 10-7). -/
structure AlertFrame where
  seq : Seq
  line : LineNo
  level : Level
  cls : ClassNo
  stamp : Stamp
  refused : Bool
  withdrawn : Nat
deriving DecidableEq, Repr

/-- A frame the part sends; its contents are fixed when it is queued (R159). `fromLink` marks a reply of the link
layer (QUEUE_FULL), which answers no request in hand (R156). -/
inductive Frame where
  | reply (fromLink : Bool) (r : Reply)
  | alert (f : AlertFrame)
  | notice (occupied : ByteSet) (overflow : Bool)
  | switchDone (o : SwitchOutcome)
  | gap (first last ack : Seq)
  | records (rs : List Record)
deriving DecidableEq, Repr

/-! ### Ports (09) -/

/-- A request frame's KIND, TAG and payload as accepted (R156). -/
structure Request where
  kind : Byte
  tag : Byte
  payload : List Byte
deriving DecidableEq, Repr

/-- The frame receiver (R154). `kept` are the bytes received after the SYNC byte. -/
inductive Receiver where
  | hunting
  | collecting (kept : List Byte)
deriving DecidableEq, Repr

/-- A frame in transmission. On Port B `sent` counts its bytes already clocked out (R153). -/
structure Sending where
  frame : Frame
  sent : Nat
deriving DecidableEq, Repr

/-- An open session with its timer and its options (Table 9-1, Table 8-2). -/
structure Session where
  number : SessionNumber
  timeoutMs : Nat
  deadline : Uptime
  alertFrames : Bool
  threshold : ClassNo
  notices : Bool
  withdrawn : Nat
  noticePending : Bool
deriving DecidableEq, Repr

/-- The state of one port (Table 9-1). -/
structure PortState where
  receiver : Receiver
  gapTimer : Option Uptime
  requests : List Request
  inHand : Bool
  lastReply : Option Reply
  waiting : List Frame
  sending : Option Sending
  session : Option Session
  nextSession : SessionNumber
deriving DecidableEq, Repr

/-- The rate of Port A (Table 9-2). -/
inductive BaudRate where
  | baud115200
  | baud460800
  | baud921600
  | baud3000000
deriving DecidableEq, Repr

/-- The SPI target of Port B: whether nCS is low, and the byte it last shifted out (R153). -/
structure SpiTarget where
  selected : Bool
  sdo : Byte
deriving DecidableEq, Repr

/-- The option of RESTART (R166). -/
inductive RestartOption where
  | full
  | keepTime
deriving DecidableEq, Repr

/-- A running restart timer: its deadline, the option, and the port whose RESTART reply is awaited (R166). -/
structure Restart where
  deadline : Uptime
  option : RestartOption
  port : Port
deriving DecidableEq, Repr

/-! ### The state -/

/-- The state of the part and the queue of waiting commands, first in, first out. -/
structure State where
  pending : List Instr
  clock : TimeBase
  lines : Vector Line 32
  nextSample : Uptime
  fifo : List FifoEntry
  rules : RuleStore
  switch : SwitchController
  classifier : Classifier
  incidents : IncidentUnit
  journal : Journal
  readers : PerPort (Option Subscription)
  alert : AlertUnit
  exceptions : ExceptionTable
  ports : PerPort PortState
  rate : BaudRate
  spi : SpiTarget
  claim : Option Holder
  restart : Option Restart
  resetCause : ResetCause
deriving DecidableEq, Repr

/-- Why a step stops with a fault: never. No event of the spec stops the part; its anomalies are exceptions, reply
statuses and records (INVENTORY.md, "Faults"). With no constructor, safe. -/
inductive Fault
deriving DecidableEq, Repr

/-- Why a command has no meaning. -/
inductive Refusal where
  /-- Raised by an arm of `exec` whose command has no meaning yet; no arm raises it now. Safe: it proves nothing. -/
  | notModelled (mnemonic : String)
deriving DecidableEq, Repr

/-! ### Reset values -/

/-- The default line entry (Table 6-2). -/
def LineRule.default : LineRule where
  mode := .off
  polarity := .normal
  debounce := 4
  chatterLimit := 0
  chatterWindowMs := 1000
  chatterReleaseMs := 2000
  edges := .both
  cls := 0
  alert := false
  group := Option.none
  role := .none

/-- The default group entry (Table 3-5). -/
def GroupRule.default : GroupRule where
  settleMs := 500
  maxDurationMs := 0
  memberLimit := 64

/-- The default bank (R120). -/
def Bank.default : Bank where
  lines := Vector.replicate 32 LineRule.default
  groups := Vector.replicate 16 GroupRule.default
  period := .us100

/-- The default time options (Table 5-3). -/
def TimeOptions.default : TimeOptions where
  syncEnable := false
  syncEdge := .rising
  windowUs := 200
  holdoverLimitS := 600
  stepThresholdUs := 50

/-- The time of day 0 s, 0 µs (R103). -/
def TimeOfDay.zero : TimeOfDay := ⟨0, 0⟩

/-- A line after reset (R87); raw and latest levels by log 6 and log 8. -/
def Line.reset : Line where
  raw := false
  latest := .low
  settled := .low
  phase := .off
  chatterCount := 0
  window := none
  release := none
  held := none

/-- A port after reset (R168). -/
def PortState.reset : PortState where
  receiver := .hunting
  gapTimer := none
  requests := []
  inHand := false
  lastReply := none
  waiting := []
  sending := none
  session := none
  nextSession := 1

/-- The time base after POWER_ON (R103). -/
def TimeBase.reset : TimeBase where
  uptime := 0
  timeOfDay := TimeOfDay.zero
  quality := .unset
  goodCount := 0
  outlierCount := 0
  lastPulse := none
  lastCorrection := none
  missingPulse := none
  holdover := none
  options := TimeOptions.default

/-- The RESTARTED record, the first after a reset (R14, R25). -/
def Record.restarted (cause : ResetCause) (stamp : Stamp) : Record where
  seq := 1
  stamp := stamp
  generation := 0
  flags := {}
  body := .restarted cause (cause == .requestKeepTime)

/-- The journal after a reset: RESTARTED alone (R25). -/
def Journal.reset (cause : ResetCause) (stamp : Stamp) : Journal where
  held := [Record.restarted cause stamp]
  next := 2
  mode := .halt

/-- The part right after a POWER_ON reset, with both rate straps low (log 5): R25, R27, R64, R87, R103, R120, R121,
R137, R143, R151, R168. -/
def State.reset : State where
  pending := []
  clock := TimeBase.reset
  lines := Vector.replicate 32 Line.reset
  nextSample := 100
  fifo := []
  rules := ⟨Bank.default, Bank.default, 0⟩
  switch := ⟨.idle, none, .none⟩
  classifier := ⟨0, 0, 0, none⟩
  incidents := ⟨Vector.replicate 8 none, 1⟩
  journal := Journal.reset .powerOn ⟨TimeOfDay.zero, .unset⟩
  readers := ⟨none, none⟩
  alert := ⟨false, none, false, false⟩
  exceptions := ⟨Vector.replicate 8 none, false⟩
  ports := ⟨PortState.reset, PortState.reset⟩
  rate := .baud115200
  spi := ⟨false, Config.fillerByte⟩
  claim := none
  restart := none
  resetCause := .powerOn

end Sys2Proof.Machine
end

