-- ==== Sys2Proof/Machine/Formats.lean ====
section
/-!
DEFINITION. Every byte layout a host sees (chapter 10): codes, request kinds and lengths, replies, unsolicited frames,
records and the frame around them.
-/
namespace Sys2Proof.Machine

/-! ### Field encoding (R170) -/

/-- The `n` low bytes of `v`, big-endian (R170, "Integers"). -/
def beBytes : Nat → Nat → List Byte
  | 0, _ => []
  | n + 1, v => BitVec.ofNat 8 (v / 256 ^ n) :: beBytes n v

/-- A signed field of `n` bytes: two's complement, big-endian (R170). -/
def signedBytes (n : Nat) (v : Int) : List Byte :=
  beBytes n (BitVec.ofInt (8 * n) v).toNat

/-- The number that bytes spell, big-endian (R170). -/
def ofBytes (bs : List Byte) : Nat :=
  bs.foldl (fun n b => n * 256 + b.toNat) 0

/-- A boolean: one byte, 0 or 1 (R170). -/
def boolByte (b : Bool) : Byte := if b then 1 else 0

def seqBytes (s : Seq) : List Byte := beBytes 4 s.toNat
def uptimeBytes (u : Uptime) : List Byte := beBytes 6 u.toNat
def generationBytes (g : Generation) : List Byte := beBytes 2 g.toNat
def lineSetBytes (s : LineSet) : List Byte := beBytes 4 s.toNat

/-- A number in one byte. -/
def byteOf (n : Nat) : Byte := BitVec.ofNat 8 n

/-- A value of 32 bits, held at its largest (R55, R102, R174). -/
def cap32 (n : Nat) : Nat := min n Config.max32

/-! ### Enumeration codes (Table 10-2) -/

def Level.code : Level → Byte
  | .low => 0
  | .high => 1

def Quality.code : Quality → Byte
  | .unset => 0
  | .free => 1
  | .locked => 2
  | .holdover => 3

/-- Ports and readers share their codes. -/
def portCode : Port → Byte
  | .a => 0
  | .b => 1

def JournalMode.code : JournalMode → Byte
  | .halt => 0
  | .wrap => 1

def ReaderState.code : ReaderState → Byte
  | .unsubscribed => 0
  | .active => 1
  | .stalled => 2
  | .dormant => 3

def LineState.code : LineState → Byte
  | .off => 0
  | .idle => 1
  | .confirming => 2
  | .lockedOut => 3

def Mode.code : Mode → Byte
  | .off => 0
  | .capture => 1

def Polarity.code : Polarity → Byte
  | .normal => 0
  | .inverted => 1

def Edges.code : Edges → Byte
  | .rising => 0
  | .falling => 1
  | .both => 2
  | .none => 3

def Role.code : Role → Byte
  | .none => 0
  | .openOrJoin => 1
  | .joinOnly => 2
  | .close => 3

/-- The group field of a line entry: 0 to 15, or 0xFF for NONE. -/
def groupCode : Option GroupNo → Byte
  | some g => byteOf g.val
  | none => 0xFF

def BankName.code : BankName → Byte
  | .active => 0
  | .staged => 1

def EntryKind.code : EntryKind → Byte
  | .line => 0
  | .group => 1
  | .global => 2

def syncEdgeCode : SyncEdge → Byte
  | .rising => 0
  | .falling => 1

def CloseReason.code : CloseReason → Byte
  | .settled => 0
  | .duration => 1
  | .memberLimit => 2
  | .line => 3
  | .host => 4
  | .ruleset => 5

def SwitchState.code : SwitchState → Byte
  | .idle => 0
  | .validating => 1
  | .draining => 2

def SwitchOutcome.code : SwitchOutcome → Byte
  | .none => 0
  | .switched _ => 1
  | .rejected _ => 2
  | .aborted => 3

def RejectReason.code : RejectReason → Byte
  | .roleWithoutGroup => 0
  | .syncConflict => 1
  | .chatterUnreachable => 2
  | .groupNeverOpens => 3
  | .durationBelowSettle => 4

def ResetCause.code : ResetCause → Byte
  | .powerOn => 0
  | .pin => 1
  | .requestFull => 2
  | .requestKeepTime => 3

def ClaimState.code : ClaimState → Byte
  | .free => 0
  | .held => 1
  | .heldByOther => 2

def ExceptionKind.code : ExceptionKind → Byte
  | .eventsHeld => 0
  | .incidentTableFull => 1
  | .journalFull => 2
  | .recordsOverwritten => 3
  | .chatterLock => 4
  | .timeDegraded => 5
  | .deliveryStalled => 6
  | .linkError => 7
  | .sessionLost => 8
  | .switchRejected => 9

def ExceptionSubject.code : ExceptionSubject → Byte
  | .none => 0xFF
  | .line l => byteOf l.val
  | .group g => byteOf g.val
  | .port p => portCode p

/-- The status codes (Table 10-5). -/
def Status.code : Status → Byte
  | .ok => 0x00
  | .accepted => 0x01
  | .noSession => 0x02
  | .badVersion => 0x03
  | .notClaimant => 0x04
  | .heldByOther => 0x05
  | .busy => 0x06
  | .badLength => 0x07
  | .badValue => 0x08
  | .unknownKind => 0x09
  | .notHeld => 0x0A
  | .notSubscribed => 0x0B
  | .badAck => 0x0C
  | .stale => 0x0D
  | .tooLate => 0x0E
  | .notInProgress => 0x0F
  | .notOpen => 0x10
  | .journalFull => 0x11
  | .syncConflict => 0x12
  | .queueFull => 0x13

/-! ### Field blocks (Table 10-3) -/

/-- A time block, 7 bytes (R170). -/
def timeBytes (t : TimeOfDay) : List Byte :=
  beBytes 4 t.seconds.toNat ++ beBytes 3 t.micros.val

/-- A stamp block, 8 bytes (R170). -/
def stampBytes (s : Stamp) : List Byte :=
  timeBytes s.time ++ [s.quality.code]

/-- A line entry block, 13 bytes. -/
def lineRuleBytes (r : LineRule) : List Byte :=
  [r.mode.code, r.polarity.code, byteOf r.debounce, byteOf r.chatterLimit] ++ beBytes 2 r.chatterWindowMs ++
    beBytes 2 r.chatterReleaseMs ++
    [r.edges.code, byteOf r.cls.val, boolByte r.alert, groupCode r.group, r.role.code]

/-- A group entry block, 7 bytes. -/
def groupRuleBytes (r : GroupRule) : List Byte :=
  beBytes 2 r.settleMs ++ beBytes 4 r.maxDurationMs ++ [byteOf r.memberLimit]

/-- The sample period in microseconds (R106). -/
def SamplePeriod.micros : SamplePeriod → Nat
  | .us50 => 50
  | .us100 => 100
  | .us250 => 250
  | .us500 => 500

/-- A global entry block, 2 bytes. -/
def globalRuleBytes (p : SamplePeriod) : List Byte :=
  beBytes 2 p.micros

/-- The entry block of its kind (Table 10-4, READ_RULE). -/
def RuleEntry.bytes : RuleEntry → List Byte
  | .line r => lineRuleBytes r
  | .group r => groupRuleBytes r
  | .global p => globalRuleBytes p

/-- A time options block, 8 bytes. -/
def timeOptionsBytes (o : TimeOptions) : List Byte :=
  [boolByte o.syncEnable, syncEdgeCode o.syncEdge] ++ beBytes 2 o.windowUs ++ beBytes 2 o.holdoverLimitS ++
    beBytes 2 o.stepThresholdUs

/-- A reader status block, 10 bytes; the last three fields zero when UNSUBSCRIBED. -/
def readerReportBytes (r : ReaderReport) : List Byte :=
  r.state.code :: (match r.points with
    | some (ack, send, window) => seqBytes ack ++ seqBytes send ++ [byteOf window]
    | none => beBytes 9 0)

/-- An incident slot block, 48 bytes. -/
def incidentReportBytes (r : IncidentReport) : List Byte :=
  [byteOf r.slot.val] ++ beBytes 2 r.incident.id.toNat ++
    [byteOf r.incident.group.val, byteOf r.incident.openingLine.val] ++
    stampBytes r.incident.firstStamp ++ uptimeBytes r.incident.firstUptime ++
    stampBytes r.incident.lastStamp ++ uptimeBytes r.incident.lastUptime ++
    [byteOf r.incident.members] ++ lineSetBytes r.incident.memberSet ++ [byteOf r.incident.highest.val] ++
    beBytes 4 r.quietRemainingUs ++ [boolByte r.durationRemainingUs.isSome] ++
    beBytes 4 (r.durationRemainingUs.getD 0)

/-- An exception slot block, 17 bytes; all but the first zero when free. -/
def exceptionSlotBytes : Option ExceptionSlot → List Byte
  | some e => [1, e.kind.code, e.subject.code] ++ uptimeBytes e.first ++ uptimeBytes e.last ++ beBytes 2 e.count
  | none => beBytes 17 0

/-- An optional sequence number: a presence byte and its full size (R170, "Optional fields"). -/
def optionalSeqBytes (s : Option Seq) : List Byte :=
  boolByte s.isSome :: seqBytes (s.getD 0)

/-- The details of a switch outcome; those that do not belong to it are zero (R173, note under Table 10-4). -/
def switchDetailBytes : SwitchOutcome → List Byte
  | .switched d => generationBytes d.old ++ generationBytes d.new ++ [byteOf d.closed] ++
      optionalSeqBytes d.recordSeq ++ [0, 0, 0]
  | .rejected r => beBytes 10 0 ++ [r.kind.code, byteOf r.index, r.reason.code]
  | .none => beBytes 13 0
  | .aborted => beBytes 13 0

/-! ### Records (R174, Tables 10-8 and 10-9) -/

/-- The kind code of a record (Table 10-9). -/
def RecordBody.code : RecordBody → Byte
  | .lineChange _ _ _ _ => 0x01
  | .chatterOn _ _ _ _ => 0x02
  | .chatterOff _ _ _ _ => 0x03
  | .incidentClose _ => 0x04
  | .overflow _ => 0x05
  | .timeSet _ _ _ => 0x06
  | .timeStep _ => 0x07
  | .qualityChange _ _ => 0x08
  | .rulesetSwitch _ _ _ => 0x09
  | .snapshot _ _ _ _ => 0x0A
  | .cleared _ _ => 0x0B
  | .restarted _ _ => 0x0C

/-- The body of a record (Table 10-9). -/
def RecordBody.bytes : RecordBody → List Byte
  | .lineChange line level cls incident =>
      [byteOf line.val, level.code, byteOf cls.val] ++ beBytes 2 (incident.getD 0).toNat
  | .chatterOn line level count cls => [byteOf line.val, level.code, byteOf count, byteOf cls.val]
  | .chatterOff line lockLevel releaseLevel cls =>
      [byteOf line.val, lockLevel.code, releaseLevel.code, byteOf cls.val]
  | .incidentClose c =>
      beBytes 2 c.id.toNat ++ [byteOf c.group.val, c.reason.code, byteOf c.openingLine.val, byteOf c.members] ++
        lineSetBytes c.memberSet ++ stampBytes c.firstStamp ++ stampBytes c.lastStamp ++
        beBytes 4 c.spanUs ++ beBytes 4 c.openUs ++ [byteOf c.highest.val]
  | .overflow m =>
      stampBytes m.firstStamp ++ stampBytes m.lastStamp ++ beBytes 4 m.records ++ beBytes 4 m.alerts ++ [m.classes]
  | .timeSet old new oldQuality => timeBytes old ++ timeBytes new ++ [oldQuality.code]
  | .timeStep correction => signedBytes 4 correction
  | .qualityChange old new => [old.code, new.code]
  | .rulesetSwitch old new closed => generationBytes old ++ generationBytes new ++ [byteOf closed]
  | .snapshot highSet lockedSet offSet port =>
      lineSetBytes highSet ++ lineSetBytes lockedSet ++ lineSetBytes offSet ++ [portCode port]
  | .cleared removed range =>
      beBytes 2 removed ++ (match range with
        | some (first, last) => seqBytes first ++ seqBytes last
        | none => beBytes 8 0)
  | .restarted cause timeKept => [cause.code, boolByte timeKept]

/-- The flags byte of a record header (Table 10-8). -/
def RecordFlags.code (f : RecordFlags) : Byte :=
  byteOf ((if f.alert then 1 else 0) + (if f.opensIncident then 2 else 0) + (if f.afterChatter then 4 else 0) +
    (if f.wasHeld then 8 else 0) + (if f.markerOpen then 16 else 0))

/-- A record: its length, the rest of the header and the body (R174). -/
def Record.bytes (r : Record) : List Byte :=
  byteOf (17 + r.body.bytes.length) :: (seqBytes r.seq ++ [r.body.code] ++ stampBytes r.stamp ++
    generationBytes r.generation ++ [r.flags.code] ++ r.body.bytes)

/-- A count byte and that many records (R174). -/
def recordsBytes (rs : List Record) : List Byte :=
  byteOf rs.length :: rs.flatMap Record.bytes

/-! ### Requests (Table 10-4) -/

/-- The request kinds of Table 10-4. -/
inductive RequestKind where
  | identify | openSession | closeSession | ping | claim | releaseClaim | restart
  | readRecords | getJournalStatus | clearJournal | setJournalMode
  | subscribe | resume | unsubscribe | ack | dropReader
  | listIncidents | closeIncident | getLines | takeSnapshot
  | getTime | setTime | setTimeOptions
  | readRule | writeLineRule | writeGroupRule | writeGlobalRule | copyActiveToStaged
  | switchRules | abortSwitch | getSwitchStatus
  | clearAlert | setSessionOptions | getExceptions | clearException
deriving DecidableEq, Repr

/-- The KIND byte of a request (Table 10-4). -/
def RequestKind.code : RequestKind → Byte
  | .identify => 0x01
  | .openSession => 0x02
  | .closeSession => 0x03
  | .ping => 0x04
  | .claim => 0x05
  | .releaseClaim => 0x06
  | .restart => 0x07
  | .readRecords => 0x08
  | .getJournalStatus => 0x09
  | .clearJournal => 0x0A
  | .setJournalMode => 0x0B
  | .subscribe => 0x0C
  | .resume => 0x0D
  | .unsubscribe => 0x0E
  | .ack => 0x0F
  | .dropReader => 0x10
  | .listIncidents => 0x11
  | .closeIncident => 0x12
  | .getLines => 0x13
  | .takeSnapshot => 0x14
  | .getTime => 0x15
  | .setTime => 0x16
  | .setTimeOptions => 0x17
  | .readRule => 0x18
  | .writeLineRule => 0x19
  | .writeGroupRule => 0x1A
  | .writeGlobalRule => 0x1B
  | .copyActiveToStaged => 0x1C
  | .switchRules => 0x1D
  | .abortSwitch => 0x1E
  | .getSwitchStatus => 0x1F
  | .clearAlert => 0x20
  | .setSessionOptions => 0x21
  | .getExceptions => 0x22
  | .clearException => 0x23

/-- The LEN of a request (Table 10-4). -/
def RequestKind.length : RequestKind → Nat
  | .identify => 0
  | .openSession => 3
  | .closeSession => 0
  | .ping => 0
  | .claim => 0
  | .releaseClaim => 0
  | .restart => 1
  | .readRecords => 5
  | .getJournalStatus => 0
  | .clearJournal => 0
  | .setJournalMode => 1
  | .subscribe => 9
  | .resume => 0
  | .unsubscribe => 0
  | .ack => 4
  | .dropReader => 1
  | .listIncidents => 1
  | .closeIncident => 2
  | .getLines => 0
  | .takeSnapshot => 0
  | .getTime => 0
  | .setTime => 7
  | .setTimeOptions => 8
  | .readRule => 3
  | .writeLineRule => 14
  | .writeGroupRule => 8
  | .writeGlobalRule => 2
  | .copyActiveToStaged => 0
  | .switchRules => 0
  | .abortSwitch => 0
  | .getSwitchStatus => 0
  | .clearAlert => 4
  | .setSessionOptions => 3
  | .getExceptions => 0
  | .clearException => 1

/-- The kinds that Table 10-4 names are 0x01 to 0x23. -/
def isRequestKind (kind : Byte) : Bool :=
  1 ≤ kind.toNat && kind.toNat ≤ 0x23

/-- The reply kind and the unsolicited kinds (R171, Table 10-7), which a host does not send (R155). -/
def isPartKind (kind : Byte) : Bool :=
  kind == 0x80 || (0x90 ≤ kind.toNat && kind.toNat ≤ 0x94)

/-! ### Replies (R171, R172) -/

/-- A line in the GET_LINES reply, 5 bytes. -/
def lineReportBytes (l : LineReport) : List Byte :=
  [boolByte l.raw, l.settled.code, l.state.code, boolByte l.held, byteOf l.chatterCount]

/-- The fields of a reply after its two-byte header (Table 10-4, Table 10-6). -/
def ReplyBody.bytes : ReplyBody → List Byte
  | .none => []
  | .identify cause now session =>
      beBytes 2 Config.partCode ++ [byteOf Config.revision, 32] ++ beBytes 2 Config.journalCapacity ++
        [8, 8, byteOf Config.maxWindow, byteOf Config.fifoCapacity, cause.code] ++ uptimeBytes now ++
        [boolByte session.isSome, session.getD 0]
  | .opened number reader c => [number, reader.code, c.code]
  | .uptime u => uptimeBytes u
  | .claim c => [c.code]
  | .records rs => recordsBytes rs
  | .journal r =>
      [r.mode.code] ++ beBytes 2 r.count ++ seqBytes (r.oldest.getD 0) ++ seqBytes r.next ++
        [boolByte r.markerOpen] ++ readerReportBytes r.readerA ++ readerReportBytes r.readerB
  | .points ack send => seqBytes ack ++ seqBytes send
  | .resumed ack send window gapPending => seqBytes ack ++ seqBytes send ++ [byteOf window, boolByte gapPending]
  | .ackPoint ack => seqBytes ack
  | .incidents nextId openCount given nextSlot =>
      beBytes 2 nextId.toNat ++ [byteOf openCount, byteOf given.length,
        (match nextSlot with
          | some i => byteOf i.val
          | Option.none => 0xFF)] ++ given.flatMap incidentReportBytes
  | .lines ls fifoCount => ls.flatMap lineReportBytes ++ [byteOf fifoCount]
  | .time r =>
      timeBytes r.timeOfDay ++ [r.quality.code] ++ uptimeBytes r.uptime ++
        [boolByte r.lastCorrection.isSome] ++ signedBytes 4 (r.lastCorrection.getD 0) ++
        [byteOf r.goodCount, byteOf r.outlierCount, boolByte r.sinceLastPulseUs.isSome] ++
        beBytes 4 (r.sinceLastPulseUs.getD 0) ++ timeOptionsBytes r.options
  | .rule r =>
      [r.bank.code, r.kind.code, byteOf r.index] ++ generationBytes r.generation ++ [boolByte r.inProgress] ++
        r.entry.bytes
  | .switchStatus r =>
      [r.state.code, boolByte r.requester.isSome] ++ (match r.requester with
        | some h => [portCode h.port, h.session]
        | Option.none => [0, 0]) ++ [r.outcome.code] ++ switchDetailBytes r.outcome ++ generationBytes r.generation ++
        [byteOf r.fifoCount] ++ lineSetBytes r.heldSet
  | .alert pending latest => boolByte pending :: optionalSeqBytes latest
  | .options alertFrames threshold notices withdrawn pending latest =>
      [boolByte alertFrames, byteOf threshold.val, boolByte notices, byteOf withdrawn, boolByte pending] ++
        optionalSeqBytes latest
  | .exceptions slots overflow lowest =>
      slots.flatMap exceptionSlotBytes ++ [boolByte overflow,
        (match lowest with
          | some i => byteOf i.val
          | Option.none => 0xFF)]
  | .occupied slots overflow => [slots, boolByte overflow]

/-- A reply payload: the KIND of the request, the status and the fields (R171). -/
def Reply.bytes (r : Reply) : List Byte :=
  r.kind :: r.status.code :: r.body.bytes

/-! ### Frames (R169, R173) -/

/-- The KIND byte of a frame the part sends (R171, Table 10-7). -/
def Frame.kindByte : Frame → Byte
  | .reply _ _ => 0x80
  | .alert _ => 0x90
  | .notice _ _ => 0x91
  | .switchDone _ => 0x92
  | .gap _ _ _ => 0x93
  | .records _ => 0x94

/-- The TAG of a frame: the request's in a reply, 0 in an unsolicited frame (R169). -/
def Frame.tag : Frame → Byte
  | .reply _ r => r.tag
  | .alert _ | .notice _ _ | .switchDone _ | .gap _ _ _ | .records _ => 0

/-- The payload of a frame (R171, Table 10-7, R173). -/
def Frame.payload : Frame → List Byte
  | .reply _ r => r.bytes
  | .alert f =>
      seqBytes f.seq ++ [byteOf f.line.val, f.level.code, byteOf f.cls.val] ++ stampBytes f.stamp ++
        [boolByte f.refused, byteOf f.withdrawn]
  | .notice occupied overflow => [occupied, boolByte overflow]
  | .switchDone o => o.code :: switchDetailBytes o
  | .gap first last ack => seqBytes first ++ seqBytes last ++ seqBytes ack
  | .records rs => recordsBytes rs

/-- One bit of the CRC: polynomial x^16 + x^12 + x^5 + 1, not reflected (R169). -/
def crcBit (c : BitVec 16) : BitVec 16 :=
  if c.msb then (c <<< 1) ^^^ 0x1021#16 else c <<< 1

/-- One byte of the CRC, most significant bit first (R169). -/
def crcByte (c : BitVec 16) (b : Byte) : BitVec 16 :=
  let x := c ^^^ (b.zeroExtend 16 <<< 8)
  crcBit (crcBit (crcBit (crcBit (crcBit (crcBit (crcBit (crcBit x)))))))

/-- The CRC of a frame, initial value 0xFFFF, over LEN to the last payload byte (R169). -/
def crc16 (bs : List Byte) : BitVec 16 :=
  bs.foldl crcByte 0xFFFF#16

/-- LEN, KIND, TAG and the payload: what the CRC covers (Table 10-1). -/
def frameBody (kind tag : Byte) (payload : List Byte) : List Byte :=
  byteOf payload.length :: kind :: tag :: payload

/-- A whole frame: SYNC, the body and the CRC, high byte first (Table 10-1). -/
def wireFrame (kind tag : Byte) (payload : List Byte) : List Byte :=
  Config.syncByte :: (frameBody kind tag payload ++ beBytes 2 (crc16 (frameBody kind tag payload)).toNat)

/-- The bytes of a frame the part sends (R169). -/
def Frame.bytes (f : Frame) : List Byte :=
  wireFrame f.kindByte f.tag f.payload

end Sys2Proof.Machine
end

