-- ==== Sys2Proof/Machine/Operands.lean ====
section
/-!
DEFINITION. The operands of requests: the fields of a payload (Table 10-4), each judged against its codes and its range.
A field outside them has no value, and the block that takes the request answers BAD_VALUE (R170).
-/
namespace Sys2Proof.Machine

/-! ### Fields by offset (R170) -/

/-- The byte at an offset of a payload. -/
def fieldByte (bs : List Byte) (at_ : Nat) : Nat := (bs.getD at_ 0).toNat

/-- The integer of `n` bytes at an offset of a payload. -/
def fieldInt (bs : List Byte) (at_ n : Nat) : Nat := ofBytes ((bs.drop at_).take n)

/-- The sequence number at an offset of a payload. -/
def fieldSeq (bs : List Byte) (at_ : Nat) : Seq := BitVec.ofNat 32 (fieldInt bs at_ 4)

/-- A number within a range. -/
def within (lo hi n : Nat) : Option Nat :=
  if lo ≤ n ∧ n ≤ hi then some n else none

/-- A number that names one of `n` things. -/
def finOf (n : Nat) (v : Nat) : Option (Fin n) :=
  if h : v < n then some ⟨v, h⟩ else none

/-! ### Enumerations (Table 10-2) -/

def boolOf : Nat → Option Bool
  | 0 => some false
  | 1 => some true
  | _ => none

def portOf : Nat → Option Port
  | 0 => some .a
  | 1 => some .b
  | _ => none

def journalModeOf : Nat → Option JournalMode
  | 0 => some .halt
  | 1 => some .wrap
  | _ => none

def modeOf : Nat → Option Mode
  | 0 => some .off
  | 1 => some .capture
  | _ => none

def polarityOf : Nat → Option Polarity
  | 0 => some .normal
  | 1 => some .inverted
  | _ => none

def edgesOf : Nat → Option Edges
  | 0 => some .rising
  | 1 => some .falling
  | 2 => some .both
  | 3 => some .none
  | _ => none

def roleOf : Nat → Option Role
  | 0 => some .none
  | 1 => some .openOrJoin
  | 2 => some .joinOnly
  | 3 => some .close
  | _ => none

/-- The group field: 0 to 15, or NONE as 0xFF. -/
def groupOf (v : Nat) : Option (Option GroupNo) :=
  if v = 0xFF then some none else (finOf 16 v).map some

def bankOf : Nat → Option BankName
  | 0 => some .active
  | 1 => some .staged
  | _ => none

def entryKindOf : Nat → Option EntryKind
  | 0 => some .line
  | 1 => some .group
  | 2 => some .global
  | _ => none

def syncEdgeOf : Nat → Option SyncEdge
  | 0 => some .rising
  | 1 => some .falling
  | _ => none

def restartOptionOf : Nat → Option RestartOption
  | 0 => some .full
  | 1 => some .keepTime
  | _ => none

def samplePeriodOf : Nat → Option SamplePeriod
  | 50 => some .us50
  | 100 => some .us100
  | 250 => some .us250
  | 500 => some .us500
  | _ => none

/-! ### Field blocks (Table 10-3), with the ranges of Tables 3-5, 5-3 and 6-2 -/

/-- The chatter limit: 0, or 2 to 63 (Table 6-2). -/
def chatterLimitOf (v : Nat) : Option Nat :=
  if v = 0 then some 0 else within 2 63 v

/-- The maximum duration: 0, or 100 to 600,000 ms (Table 3-5). -/
def maxDurationOf (v : Nat) : Option Nat :=
  if v = 0 then some 0 else within 100 600000 v

/-- A line entry from its 13 bytes, every field in range (R107). -/
def lineRuleOf (bs : List Byte) : Option LineRule := do
  let mode ← modeOf (fieldByte bs 0)
  let polarity ← polarityOf (fieldByte bs 1)
  let debounce ← within 1 255 (fieldByte bs 2)
  let chatterLimit ← chatterLimitOf (fieldByte bs 3)
  let chatterWindowMs ← within 10 10000 (fieldInt bs 4 2)
  let chatterReleaseMs ← within 10 60000 (fieldInt bs 6 2)
  let edges ← edgesOf (fieldByte bs 8)
  let cls ← finOf 8 (fieldByte bs 9)
  let alert ← boolOf (fieldByte bs 10)
  let group ← groupOf (fieldByte bs 11)
  let role ← roleOf (fieldByte bs 12)
  some { mode, polarity, debounce, chatterLimit, chatterWindowMs, chatterReleaseMs, edges, cls, alert, group, role }

/-- A group entry from its 7 bytes, every field in range (R108). -/
def groupRuleOf (bs : List Byte) : Option GroupRule := do
  let settleMs ← within 10 60000 (fieldInt bs 0 2)
  let maxDurationMs ← maxDurationOf (fieldInt bs 2 4)
  let memberLimit ← within 1 255 (fieldByte bs 6)
  some { settleMs, maxDurationMs, memberLimit }

/-- Time options from their 8 bytes, every option in range (R92). -/
def timeOptionsOf (bs : List Byte) : Option TimeOptions := do
  let syncEnable ← boolOf (fieldByte bs 0)
  let syncEdge ← syncEdgeOf (fieldByte bs 1)
  let windowUs ← within 10 2000 (fieldInt bs 2 2)
  let holdoverLimitS ← within 10 3600 (fieldInt bs 4 2)
  let stepThresholdUs ← within 0 10000 (fieldInt bs 6 2)
  some { syncEnable, syncEdge, windowUs, holdoverLimitS, stepThresholdUs }

/-- A time of day from its 7 bytes; microseconds above 999,999 have no value (R91). -/
def timeOfDayOf (bs : List Byte) : Option TimeOfDay := do
  let micros ← finOf 1000000 (fieldInt bs 4 3)
  some ⟨BitVec.ofNat 32 (fieldInt bs 0 4), micros⟩

/-! ### Requests with fields of their own -/

/-- The start of a SUBSCRIBE (R28). -/
inductive SubscribeStart where
  | oldest
  | next
  | from_ (s : Seq)
deriving DecidableEq, Repr

/-- The fields of SUBSCRIBE (R28). -/
structure SubscribeFields where
  start : SubscribeStart
  window : Nat
  timeoutMs : Nat
  retain : Bool
deriving DecidableEq, Repr

/-- The start; the sequence number is judged for FROM alone (R170). -/
def subscribeStartOf (code : Nat) (s : Seq) : Option SubscribeStart :=
  match code with
  | 0 => some .oldest
  | 1 => some .next
  | 2 => some (.from_ s)
  | _ => none

def subscribeOf (bs : List Byte) : Option SubscribeFields := do
  let start ← subscribeStartOf (fieldByte bs 0) (fieldSeq bs 1)
  let window ← within 1 Config.maxWindow (fieldByte bs 5)
  let timeoutMs ← within 20 5000 (fieldInt bs 6 2)
  let retain ← boolOf (fieldByte bs 8)
  some { start, window, timeoutMs, retain }

/-- READ_RECORDS: the start and a count from 1 to 4 (R23). -/
def readRecordsOf (bs : List Byte) : Option (Seq × Nat) := do
  let count ← within 1 Config.recordsPerFrame (fieldByte bs 4)
  some (fieldSeq bs 0, count)

/-- Which entry a READ_RULE names; the index of the global entry is not judged (R111, R170). -/
inductive RuleIndex where
  | line (l : LineNo)
  | group (g : GroupNo)
  | global
deriving DecidableEq, Repr

def ruleIndexOf (kind : EntryKind) (index : Nat) : Option RuleIndex :=
  match kind with
  | .line => (finOf 32 index).map .line
  | .group => (finOf 16 index).map .group
  | .global => some .global

def readRuleOf (bs : List Byte) : Option (BankName × EntryKind × RuleIndex) := do
  let bank ← bankOf (fieldByte bs 0)
  let kind ← entryKindOf (fieldByte bs 1)
  let index ← ruleIndexOf kind (fieldByte bs 2)
  some (bank, kind, index)

def writeLineRuleOf (bs : List Byte) : Option (LineNo × LineRule) := do
  let line ← finOf 32 (fieldByte bs 0)
  let rule ← lineRuleOf (bs.drop 1)
  some (line, rule)

def writeGroupRuleOf (bs : List Byte) : Option (GroupNo × GroupRule) := do
  let group ← finOf 16 (fieldByte bs 0)
  let rule ← groupRuleOf (bs.drop 1)
  some (group, rule)

def writeGlobalRuleOf (bs : List Byte) : Option SamplePeriod :=
  samplePeriodOf (fieldInt bs 0 2)

/-- SET_SESSION_OPTIONS: alert frames, class threshold, notices (R144). -/
def sessionOptionsOf (bs : List Byte) : Option (Bool × ClassNo × Bool) := do
  let alertFrames ← boolOf (fieldByte bs 0)
  let threshold ← finOf 8 (fieldByte bs 1)
  let notices ← boolOf (fieldByte bs 2)
  some (alertFrames, threshold, notices)

/-- CLEAR_EXCEPTION: a slot, or ALL as 0xFF (R150). -/
def clearExceptionOf (bs : List Byte) : Option (Option SlotNo) :=
  if fieldByte bs 0 = 0xFF then some none else (finOf 8 (fieldByte bs 0)).map some

end Sys2Proof.Machine
end

