-- ==== Sys2Proof/Machine/Flags.lean ====
section
/-!
DEFINITION. The flags, levels and names that are functions of the state: what the spec defines as "full", "empty",
"open", "in progress", "holding the claim", the pin nATTN, and the state names that replies carry.
-/
namespace Sys2Proof.Machine

/-! ### Journal and readers -/

/-- An open OVERFLOW marker (R6, R16). -/
def Record.isOpenMarker (r : Record) : Bool :=
  match r.body with
  | .overflow _ => r.flags.markerOpen
  | _ => false

/-- The marker state is OPEN: the newest record is an open marker (R16). -/
def Journal.markerOpen (j : Journal) : Bool :=
  match j.held.getLast? with
  | some r => r.isOpenMarker
  | none => false

/-- The records in flight: send point minus ack point minus one, modulo 2^32 (R26). -/
def Subscription.inFlight (r : Subscription) : Nat :=
  (r.send - r.ack - 1).toNat

/-- A retaining reader (R20). -/
def Subscription.retaining (r : Subscription) : Bool :=
  match r.state with
  | .dormant => r.retain
  | .active | .stalled => true

/-- The state of a reader as replies name it (Table 10-2). -/
def readerState : Option Subscription → ReaderState
  | none => .unsubscribed
  | some r => match r.state with
    | .active => .active
    | .stalled => .stalled
    | .dormant => .dormant

/-! ### Event FIFO, held slots and switch -/

/-- The FIFO is full when it holds 64 entries (R75). -/
def State.fifoFull (s : State) : Bool :=
  Config.fifoCapacity ≤ s.fifo.length

/-- Some line's held slot is occupied (R77). -/
def State.anyHeld (s : State) : Bool :=
  (List.finRange 32).any fun i => s.lines[i].held.isSome

/-- The incident unit's action is in progress: the call of the entry in hand has been taken, and the classifier has
records of that entry still to build (R49). -/
def State.inAction (s : State) : Bool :=
  match s.classifier.inHand with
  | some (.entry h) => h.called
  | some (.marker _) | none => false

/-- A switch is DRAINING (R122). -/
def State.draining (s : State) : Bool :=
  s.switch.phase == .draining

/-- A switch is in progress: VALIDATING or DRAINING (R122). -/
def State.switchInProgress (s : State) : Bool :=
  s.switch.phase != .idle

/-- The state name of the switch controller (Table 10-2). -/
def SwitchPhase.name : SwitchPhase → SwitchState
  | .idle => .idle
  | .validating _ _ => .validating
  | .draining => .draining

/-- A line's state name (Table 10-2). -/
def LinePhase.name : LinePhase → LineState
  | .off => .off
  | .idle => .idle
  | .confirming _ _ _ => .confirming
  | .lockedOut _ => .lockedOut

/-- The front end takes the samples of line `i`: its ACTIVE mode is CAPTURE, and its pin is not the SYNC input
(R65, R86). -/
def State.captures (s : State) (i : LineNo) : Bool :=
  s.rules.active.lines[i].mode == .capture && !(i == 31 && s.clock.options.syncEnable)

/-- The set of lines for which `f` holds. -/
def lineSetOf (f : LineNo → Bool) : LineSet :=
  (List.finRange 32).foldl (fun acc i => if f i then acc ||| (1#32 <<< i.val) else acc) 0

/-- A line set with line `i` put in or taken out. -/
def putLine (set : LineSet) (i : LineNo) (member : Bool) : LineSet :=
  if member then set ||| (1#32 <<< i.val) else set &&& ~~~(1#32 <<< i.val)

/-- The lines whose held slot is occupied (R135). -/
def State.heldSet (s : State) : LineSet :=
  lineSetOf fun i => s.lines[i].held.isSome

/-- The lines whose mode in a bank is OFF (R118). -/
def Bank.offSet (b : Bank) : LineSet :=
  lineSetOf fun i => b.lines[i].mode == .off

/-! ### Exception table -/

/-- The set of occupied slots (R147). -/
def ExceptionTable.occupied (t : ExceptionTable) : ByteSet :=
  (List.finRange 8).foldl (fun acc i => if t.slots[i].isSome then acc ||| (1#8 <<< i.val) else acc) 0

/-- The table is empty: no slot occupied and the overflow flag clear (08, section 8.5). -/
def ExceptionTable.isEmpty (t : ExceptionTable) : Bool :=
  !t.overflow && (List.finRange 8).all fun i => t.slots[i].isNone

/-- The lowest occupied slot (R149). -/
def ExceptionTable.lowest (t : ExceptionTable) : Option SlotNo :=
  (List.finRange 8).find? fun i => t.slots[i].isSome

/-! ### Sessions, the claim and frames -/

/-- The session of port `p` holds the configuration claim (R165). -/
def State.holdsClaim (s : State) (p : Port) : Bool :=
  match (s.ports.get p).session with
  | some ses => s.claim == some ⟨p, ses.number⟩
  | none => false

/-- The claim as the session of port `p` sees it (Table 10-2). -/
def State.claimState (s : State) (p : Port) : ClaimState :=
  match s.claim with
  | none => .free
  | some h => if h.port = p then .held else .heldByOther

def Frame.isAlert : Frame → Bool
  | .alert _ => true
  | _ => false

def Frame.isNotice : Frame → Bool
  | .notice _ _ => true
  | _ => false

def Frame.isSwitchDone : Frame → Bool
  | .switchDone _ => true
  | _ => false

def Frame.isGap : Frame → Bool
  | .gap _ _ _ => true
  | _ => false

def Frame.isRecords : Frame → Bool
  | .records _ => true
  | _ => false

/-- A QUEUE_FULL reply of the link layer (R156). -/
def Frame.isLinkReply : Frame → Bool
  | .reply fromLink _ => fromLink
  | _ => false

/-- The pick order of the transmitter, lower first (R159). -/
def Frame.rank : Frame → Nat
  | .reply _ _ => 0
  | .alert _ => 1
  | .notice _ _ => 2
  | .switchDone _ => 3
  | .gap _ _ _ => 4
  | .records _ => 5

/-- nATTN is driven low: Port B has a frame queued, or one in transmission whose last byte has not been clocked out
(R153). -/
def State.nAttnLow (s : State) : Bool :=
  !s.ports.b.waiting.isEmpty || match s.ports.b.sending with
    | none => false
    | some x => decide (x.sent < x.frame.bytes.length)

end Sys2Proof.Machine
end

