-- ==== Sys2Proof/Machine/Ops.lean ====
section
/-!
DEFINITION. The operations that several blocks share, each written once from its rule: uptime and time of day, sequence
arithmetic, the transmit queue, raising an exception, taking an alert, the reader's withdrawals and losses, appending to
and releasing from the journal, a session's end, the reset, and the taking and answering of a request.
-/
namespace Sys2Proof.Machine

/-! ### Uptime (R88) -/

/-- `now` is at or after `deadline`, compared by distance (R88, log 9). -/
def reached (now deadline : Uptime) : Bool :=
  (now - deadline).toNat < 2 ^ 47

/-- A timer that is running and has reached its deadline. -/
def expired (now : Uptime) : Option Uptime → Bool
  | some deadline => reached now deadline
  | none => false

/-- The uptime `us` microseconds after `u`, modulo 2^48. -/
def afterUs (u : Uptime) (us : Nat) : Uptime :=
  u + BitVec.ofNat 48 us

/-- The uptime `ms` milliseconds after `u` (00, "Time": a duration in ms counts thousands of microseconds). -/
def afterMs (u : Uptime) (ms : Nat) : Uptime :=
  afterUs u (ms * 1000)

/-- The microseconds from `earlier` to `later`. -/
def elapsedUs (later earlier : Uptime) : Nat :=
  (later - earlier).toNat

/-! ### Time of day (R89) -/

/-- The time of day `d` microseconds on (or back), carried across the seconds, which count modulo 2^32 (R89). -/
def TimeOfDay.add (t : TimeOfDay) (d : Int) : TimeOfDay :=
  let total : Int := (t.seconds.toNat : Int) * 1000000 + t.micros.val + d
  ⟨BitVec.ofInt 32 (total / 1000000), Fin.ofNat 1000000 (total % 1000000).toNat⟩

/-- One microsecond passes (R88, R89). -/
def TimeBase.tick (c : TimeBase) : TimeBase :=
  { c with uptime := c.uptime + 1, timeOfDay := c.timeOfDay.add 1 }

/-- The stamp read now: time of day and quality from the same instant (R101). -/
def State.stampNow (s : State) : Stamp :=
  ⟨s.clock.timeOfDay, s.clock.quality⟩

/-! ### Sequence arithmetic (R2) -/

/-- The distance of `n` below the next sequence number. -/
def distance (next n : Seq) : Nat :=
  (next - n).toNat

/-- `a` lies at or above `b`. -/
def atOrAbove (next a b : Seq) : Bool :=
  distance next a ≤ distance next b

/-- `n` is held: its distance lies between 1 and the count (R2). -/
def Journal.holds (j : Journal) (n : Seq) : Bool :=
  1 ≤ distance j.next n && distance j.next n ≤ j.held.length

/-- The held records from `n` onward, in sequence order. -/
def Journal.from_ (j : Journal) (n : Seq) : List Record :=
  j.held.dropWhile fun r => r.seq != n

/-! ### Ports, readers and the transmit queue -/

def State.setPort (s : State) (p : Port) (x : PortState) : State :=
  { s with ports := s.ports.set p x }

def State.setReader (s : State) (p : Port) (r : Option Subscription) : State :=
  { s with readers := s.readers.set p r }

def State.setSession (s : State) (p : Port) (ses : Option Session) : State :=
  s.setPort p { s.ports.get p with session := ses }

def State.setLine (s : State) (i : LineNo) (l : Line) : State :=
  { s with lines := s.lines.set i l }

/-- A frame joins the port's transmit queue (R159). -/
def State.queueFrame (s : State) (p : Port) (f : Frame) : State :=
  s.setPort p { s.ports.get p with waiting := (s.ports.get p).waiting ++ [f] }

/-- The waiting frames for which `f` holds leave the port's transmit queue (R159). -/
def State.withdraw (s : State) (p : Port) (f : Frame → Bool) : State :=
  s.setPort p { s.ports.get p with waiting := (s.ports.get p).waiting.filter fun x => !f x }

/-- `xs` without its first element for which `f` holds. -/
def eraseFirst {α : Type} (f : α → Bool) : List α → List α
  | [] => []
  | x :: xs => if f x then xs else x :: eraseFirst f xs

/-! ### Exceptions (R145, R147) -/

/-- A NOTICE frame is queued for the session of port `p`, at most one waiting (R147). -/
def queueNotice (p : Port) (s : State) : State :=
  if (s.ports.get p).waiting.any Frame.isNotice then s
  else s.queueFrame p (.notice s.exceptions.occupied s.exceptions.overflow)

/-- The table has become not empty: the open session of port `p` is offered a NOTICE frame, or its notice-pending flag
is set (R147, R148). -/
def offerNotice (p : Port) (s : State) : State :=
  match (s.ports.get p).session with
  | none => s
  | some ses =>
    if ses.notices then queueNotice p s
    else s.setSession p (some { ses with noticePending := true })

/-- The occupied slot that holds this kind and subject (R145). -/
def ExceptionTable.slotOf (t : ExceptionTable) (kind : ExceptionKind) (subject : ExceptionSubject) :
    Option (SlotNo × ExceptionSlot) :=
  (List.finRange 8).findSome? fun i =>
    match t.slots[i] with
    | some e => if e.kind = kind ∧ e.subject = subject then some (i, e) else none
    | none => none

/-- The lowest-numbered free slot (R145). -/
def ExceptionTable.freeSlot (t : ExceptionTable) : Option SlotNo :=
  (List.finRange 8).find? fun i => t.slots[i].isNone

/-- The table after a raise taken at `now` (R145). -/
def ExceptionTable.take (t : ExceptionTable) (now : Uptime) (kind : ExceptionKind) (subject : ExceptionSubject) :
    ExceptionTable :=
  if t.overflow then t
  else match t.slotOf kind subject with
    | some (i, e) => { t with slots := t.slots.set i (some { e with count := min 65535 (e.count + 1), last := now }) }
    | none => match t.freeSlot with
      | some i => { t with slots := t.slots.set i (some ⟨kind, subject, now, now, 1⟩) }
      | none => { t with overflow := true }

/-- A block raises an exception; when the table becomes not empty from empty, both ports are looked at (R145, R147). -/
def raise (kind : ExceptionKind) (subject : ExceptionSubject) (s : State) : State :=
  let taken := { s with exceptions := s.exceptions.take s.clock.uptime kind subject }
  if s.exceptions.isEmpty then offerNotice .b (offerNotice .a taken) else taken

/-- The exception table after a clear; if it is empty, both sessions' notice-pending flags are cleared and waiting
NOTICE frames are withdrawn (R147, R148, R150). -/
def forgetNotices (p : Port) (s : State) : State :=
  let s := s.withdraw p Frame.isNotice
  match (s.ports.get p).session with
  | none => s
  | some ses => s.setSession p (some { ses with noticePending := false })

/-! ### Alerts (R138 to R141) -/

/-- An alert as the journal hands it over (R6): the sequence number is the record's, or the marker's when refused. -/
structure AlertInfo where
  seq : Seq
  line : LineNo
  level : Level
  cls : ClassNo
  stamp : Stamp
  refused : Bool
deriving DecidableEq, Repr

/-- An ALERT frame is queued for a session; with four waiting, the oldest is withdrawn first and counted (R140, R141). -/
def queueAlert (p : Port) (ses : Session) (a : AlertInfo) (s : State) : State :=
  let full := Config.alertCapacity ≤ ((s.ports.get p).waiting.filter Frame.isAlert).length
  let withdrawn := if full then min 255 (ses.withdrawn + 1) else ses.withdrawn
  let kept := if full then eraseFirst Frame.isAlert (s.ports.get p).waiting else (s.ports.get p).waiting
  let frame := Frame.alert ⟨a.seq, a.line, a.level, a.cls, a.stamp, a.refused, withdrawn⟩
  s.setPort p { s.ports.get p with
    waiting := kept ++ [frame], session := some { ses with withdrawn := withdrawn } }

/-- A port is offered an ALERT frame when its session is open, has alert frames on and a threshold at or below the
alert's class (R140). -/
def offerAlert (p : Port) (a : AlertInfo) (s : State) : State :=
  match (s.ports.get p).session with
  | none => s
  | some ses =>
    if ses.alertFrames && ses.threshold ≤ a.cls then queueAlert p ses a s else s

/-- The alert unit takes an alert: pending set, latest moved, nALERT low, frames offered (R138, R139). -/
def takeAlert (a : AlertInfo) (s : State) : State :=
  offerAlert .b a (offerAlert .a a { s with alert := ⟨true, some a.seq, false, true⟩ })

/-! ### Readers: withdrawal and loss (R30, R41) -/

/-- The retransmit timer stops when nothing is in flight (R31). -/
def Subscription.settleTimer (r : Subscription) : Subscription :=
  if r.inFlight = 0 then { r with timer := none } else r

/-- The first sequence number of the reader's waiting RECORDS frame. -/
def waitingFirst (waiting : List Frame) : Option Seq :=
  waiting.findSome? fun f =>
    match f with
    | .records rs => rs.head?.map (·.seq)
    | _ => none

/-- The reader's waiting RECORDS frame is withdrawn, and its send point set back (R30). -/
def withdrawRecords (p : Port) (s : State) : State :=
  match waitingFirst (s.ports.get p).waiting, s.readers.get p with
  | some first, some r =>
    (s.withdraw p Frame.isRecords).setReader p (some { r with send := first }.settleTimer)
  | _, _ => s.withdraw p Frame.isRecords

/-- The reader of port `p` loses the overwritten record `n`, if its ack point lies below it (R41). -/
def loseRecord (n : Seq) (p : Port) (s : State) : State :=
  match s.readers.get p with
  | none => s
  | some r0 =>
    if atOrAbove s.journal.next r0.ack n then s
    else
      let s := withdrawRecords p s
      match s.readers.get p with
      | none => s
      | some r =>
        let send := if atOrAbove s.journal.next n r.send then n + 1 else r.send
        let gap := match r.gap with
          | none => (n, n)
          | some (first, _) => (first, n)
        raise .recordsOverwritten (.port p)
          (s.setReader p (some { r with ack := n, send := send, gap := some gap }.settleTimer))

/-! ### The journal: appending (R4 to R7, R15 to R19) -/

/-- A record as a block offers it; a kind stamped at append carries no stamp of its own (Table 1-2). -/
structure Offer where
  body : RecordBody
  stamp : Option Stamp := none
  flags : RecordFlags := {}
deriving DecidableEq, Repr

/-- The stamp of an offered record: its own, or the time of day and quality read now (R5, Table 1-2). -/
def Offer.stampIn (o : Offer) (s : State) : Stamp :=
  o.stamp.getD s.stampNow

/-- The alert an offered record carries: a LINE_CHANGE with the ALERT flag (R6). -/
def Offer.alertInfo (o : Offer) (s : State) (seq : Seq) (refused : Bool) : Option AlertInfo :=
  match o.body with
  | .lineChange line level cls _ =>
    if o.flags.alert then some ⟨seq, line, level, cls, o.stampIn s, refused⟩ else none
  | _ => none

/-- The class an offered record puts into the refused class set (R16). -/
def RecordBody.lineClass : RecordBody → Option ClassNo
  | .lineChange _ _ cls _ => some cls
  | .chatterOn _ _ _ cls => some cls
  | .chatterOff _ _ _ cls => some cls
  | _ => none

/-- A class set with a class put in, if there is one. -/
def putClass (set : ByteSet) : Option ClassNo → ByteSet
  | some c => set ||| (1#8 <<< c.val)
  | none => set

/-- Hand an alert to the alert unit, if there is one (R6). -/
def handAlert (a : Option AlertInfo) (s : State) : State :=
  match a with
  | some a => takeAlert a s
  | none => s

/-- The latest alert has come to lie more than 2,064 below the next sequence number (R142). -/
def ageAlert (s : State) : State :=
  match s.alert.latest with
  | some n =>
    if Config.seqBand < distance s.journal.next n then { s with alert := { s.alert with aged := true } } else s
  | none => s

/-- A record joins the run at the newest end, completed with its sequence number and generation (R1, R5). -/
def acceptRecord (body : RecordBody) (stamp : Stamp) (flags : RecordFlags) (s : State) : State :=
  ageAlert { s with journal := { s.journal with
    held := s.journal.held ++ [⟨s.journal.next, stamp, s.rules.generation, flags, body⟩]
    next := s.journal.next + 1 } }

/-- An offered record is accepted, and its alert handed over (R5, R6). -/
def acceptOffer (o : Offer) (s : State) : State :=
  handAlert (o.alertInfo s s.journal.next false) (acceptRecord o.body (o.stampIn s) o.flags s)

/-- The counting fields of a marker raised for one refused record (R16). -/
def MarkerCounts.start (stamp : Stamp) (alerted : Bool) (cls : Option ClassNo) : MarkerCounts :=
  ⟨stamp, stamp, 1, if alerted then 1 else 0, putClass 0 cls⟩

/-- The counting fields after one more refused record (R17). -/
def MarkerCounts.count (m : MarkerCounts) (stamp : Stamp) (alerted : Bool) (cls : Option ClassNo) : MarkerCounts :=
  { m with
    lastStamp := stamp
    records := cap32 (m.records + 1)
    alerts := if alerted then cap32 (m.alerts + 1) else m.alerts
    classes := putClass m.classes cls }

/-- The refused record raises the marker in its place, as the 2,048th record (R16). -/
def raiseMarker (o : Offer) (s : State) : State :=
  let marker := s.journal.next
  let alert := o.alertInfo s marker true
  let counts := MarkerCounts.start (o.stampIn s) alert.isSome o.body.lineClass
  handAlert alert
    (raise .journalFull .none (acceptRecord (.overflow counts) s.stampNow { markerOpen := true } s))

/-- A change of the newest record. -/
def mapLast (f : Record → Record) : List Record → List Record
  | [] => []
  | [r] => [f r]
  | r :: r' :: rs => r :: mapLast f (r' :: rs)

/-- The open marker with one more refused record counted into it (R17). -/
def Record.countRefused (stamp : Stamp) (alerted : Bool) (cls : Option ClassNo) (r : Record) : Record :=
  if r.isOpenMarker then
    match r.body with
    | .overflow m => { r with body := .overflow (m.count stamp alerted cls) }
    | _ => r
  else r

/-- A refused record is counted into the open marker, and its alert handed over with the marker's number (R17, R6). -/
def countRefused (o : Offer) (s : State) : State :=
  let alert := o.alertInfo s (s.journal.next - 1) true
  handAlert alert { s with journal := { s.journal with
    held := mapLast (Record.countRefused (o.stampIn s) alert.isSome o.body.lineClass) s.journal.held } }

/-- In WRAP mode with a full journal, the oldest record is removed and reported to the delivery unit (R19), which takes
the report against reader A and then reader B: R41 says "each reader in turn", and that order is the model's choice
(log 29). -/
def overwriteOldest (s : State) : State :=
  match s.journal.held with
  | [] => s
  | r :: rest =>
    loseRecord r.seq .b (loseRecord r.seq .a { s with journal := { s.journal with held := rest } })

/-- The journal takes an append. The answer is the state and the sequence number given, none when the record was
refused (R4, R15, R19). -/
def append (o : Offer) (s : State) : State × Option Seq :=
  match s.journal.mode with
  | .wrap =>
    let s := if s.journal.held.length < Config.journalCapacity then s else overwriteOldest s
    (acceptOffer o s, some s.journal.next)
  | .halt =>
    if s.journal.held.length < Config.journalCapacity - 1 then (acceptOffer o s, some s.journal.next)
    else if s.journal.held.length = Config.journalCapacity - 1 ∧ s.journal.markerOpen = false then (raiseMarker o s, none)
    else (countRefused o s, none)

/-- An append whose sequence number the offering block does not need. -/
def offer (o : Offer) (s : State) : State :=
  (append o s).1

/-! ### The journal: closing the marker and release (R18, R20) -/

/-- An open marker closes: its OPEN flag is cleared (R18). -/
def Record.closed (r : Record) : Record :=
  if r.isOpenMarker then { r with flags := { r.flags with markerOpen := false } } else r

/-- The open marker, if any, closes and stays held (R18). -/
def Journal.closeMarker (j : Journal) : Journal :=
  { j with held := mapLast Record.closed j.held }

/-- Of two points, the one that lies further below the next sequence number. -/
def furtherBelow (next a b : Seq) : Seq :=
  if distance next a < distance next b then b else a

/-- The ack point of a retaining reader. -/
def retainedAck : Option Subscription → Option Seq
  | some r => if r.retaining then some r.ack else none
  | none => none

/-- The release point: among the retaining readers' ack points, the one furthest below (R20). -/
def State.releasePoint (s : State) : Option Seq :=
  match retainedAck s.readers.a, retainedAck s.readers.b with
  | some a, some b => some (furtherBelow s.journal.next a b)
  | some a, none => some a
  | none, some b => some b
  | none, none => none

/-- The held records above a release point: the run that stays (R20). -/
def Journal.above (j : Journal) (point : Seq) : List Record :=
  j.held.dropWhile fun r => atOrAbove j.next point r.seq

/-- The journal evaluates release, taken whole; if it releases a record, an open marker closes (R20). -/
def evaluateRelease (s : State) : State :=
  match s.releasePoint with
  | none => s
  | some point =>
    if (s.journal.above point).length < s.journal.held.length then
      { s with journal := { s.journal with held := s.journal.above point }.closeMarker }
    else s

/-! ### Ending a subscription and a session (R36, R39, R43, R164) -/

/-- The reader of port `p` is ended: its waiting frames are withdrawn, it becomes UNSUBSCRIBED and release is evaluated;
an UNSUBSCRIBED reader is left as it is (R39). -/
def endReader (p : Port) (s : State) : State :=
  match s.readers.get p with
  | none => s
  | some _ =>
    evaluateRelease ((s.withdraw p fun f => f.isRecords || f.isGap).setReader p none)

/-- The range of the reader's waiting GAP frame. -/
def waitingGap (waiting : List Frame) : Option (Seq × Seq) :=
  waiting.findSome? fun f =>
    match f with
    | .gap first last _ => some (first, last)
    | _ => none

/-- A pending gap with the range of a returned GAP frame merged into it (R43). -/
def mergeGap (range : Seq × Seq) : Option (Seq × Seq) → Seq × Seq
  | some (_, last) => (range.1, last)
  | none => range

/-- The reader's waiting GAP frame is withdrawn and returned to it (R43). -/
def returnGap (p : Port) (s : State) : State :=
  match waitingGap (s.ports.get p).waiting with
  | none => s
  | some range =>
    let s := s.withdraw p Frame.isGap
    match s.readers.get p with
    | none => s
    | some r => s.setReader p (some { r with gap := some (mergeGap range r.gap) })

/-- The delivery unit takes a session end against the port's reader (R36). -/
def readerSessionEnd (p : Port) (s : State) : State :=
  match s.readers.get p with
  | none => s
  | some r =>
    match r.state with
    | .dormant => s
    | .active | .stalled =>
      if r.retain then
        s.setReader p (some { r with state := .dormant, send := r.ack + 1, retry := 0, timer := none })
      else evaluateRelease (s.setReader p none)

/-- A session's waiting ALERT, NOTICE and SWITCH_DONE frames (R164). -/
def Frame.isSessionFrame (f : Frame) : Bool :=
  f.isAlert || f.isNotice || f.isSwitchDone

/-- The session of port `p` ends, if one is open: transmit queue, reader, claim, options and state, in that order
(R164). -/
def endSession (p : Port) (s : State) : State :=
  match (s.ports.get p).session with
  | none => s
  | some ses =>
    let s := returnGap p (withdrawRecords p (s.withdraw p Frame.isSessionFrame))
    let s := readerSessionEnd p s
    let s := if s.claim = some ⟨p, ses.number⟩ then { s with claim := none } else s
    s.setSession p none

/-! ### The reset (00 Table 0-5) -/

/-- Port A's rate from the straps (Table 9-2). -/
def rateOf (x : Straps) : BaudRate :=
  match x.baud1, x.baud0 with
  | false, false => .baud115200
  | false, true => .baud460800
  | true, false => .baud921600
  | true, true => .baud3000000

/-- The time base after REQUEST_KEEP_TIME (R104, Table 5-4). -/
def TimeBase.keepTime (c : TimeBase) : TimeBase :=
  let kept := { TimeBase.reset with options := c.options }
  let limit := c.options.holdoverLimitS * 1000000
  match c.quality with
  | .unset => kept
  | .free => { kept with timeOfDay := c.timeOfDay, quality := .free }
  | .locked | .holdover =>
    { kept with timeOfDay := c.timeOfDay, quality := .holdover, holdover := some ⟨0, afterUs 0 limit⟩ }

/-- The time base after a reset of each cause (R103, R104). -/
def TimeBase.afterReset (cause : ResetCause) (c : TimeBase) : TimeBase :=
  match cause with
  | .requestKeepTime => c.keepTime
  | .powerOn | .pin | .requestFull => TimeBase.reset

/-- The part resets: every block takes its reset values (R25, R27, R64, R87, R103, R104, R120, R121, R137, R143, R151,
R168). The queue of waiting commands is not the part's. -/
def resetPart (cause : ResetCause) (straps : Straps) (s : State) : State :=
  let clock := s.clock.afterReset cause
  { State.reset with
    pending := s.pending
    clock := clock
    journal := Journal.reset cause ⟨clock.timeOfDay, clock.quality⟩
    rate := rateOf straps
    resetCause := cause }

/-- The cause of a requested reset (R166). -/
def RestartOption.cause : RestartOption → ResetCause
  | .full => .requestFull
  | .keepTime => .requestKeepTime

/-! ### Taking and answering a request (R157, R158) -/

/-- What a block answers: the state it left, the status and the reply fields. -/
abbrev Answer := State × Status × ReplyBody

/-- A reply of the header alone (R171). -/
def refuse (status : Status) (s : State) : Answer := (s, status, .none)

/-- A request that needs the configuration claim: a session without it is answered NOT_CLAIMANT (R165). -/
def withClaim (p : Port) (s : State) (carry : Answer) : Answer :=
  if s.holdsClaim p then carry else refuse .notClaimant s

/-- The oldest queued request, when the session layer may take it: none is in hand (R157) and no RESTART waits for its
reset (R166). -/
def State.takable (s : State) (p : Port) : Option Request :=
  if s.restart.isSome || (s.ports.get p).inHand then none else (s.ports.get p).requests.head?

/-- The stored reply that answers a repeated request: TAG nonzero, TAG and KIND those of the store (R157, case 1). -/
def State.storedReply (s : State) (p : Port) (q : Request) : Option Reply :=
  match (s.ports.get p).lastReply with
  | some r => if q.tag ≠ 0 ∧ r.tag = q.tag ∧ r.kind = q.kind then some r else none
  | none => none

/-- A reply of the session layer is queued and stored (R157, R158). -/
def State.answer (s : State) (p : Port) (r : Reply) : State :=
  let s := s.queueFrame p (.reply false r)
  s.setPort p { s.ports.get p with lastReply := some r }

/-- The request at the head of the queue is in hand (R157). -/
def State.putInHand (s : State) (p : Port) : State :=
  s.setPort p { s.ports.get p with inHand := true }

/-- The session layer takes the oldest request of port `p`, if it is of a wanted kind: a repeated request is answered
from the store, any other by `carry` (R157). When no such request can be taken, nothing happens (log 1). -/
def takeRequest (p : Port) (wanted : Byte → Bool) (carry : Request → State → Answer) (s : State) : State :=
  match s.takable p with
  | none => s
  | some q =>
    if wanted q.kind then
      let s := s.putInHand p
      match s.storedReply p q with
      | some r => s.queueFrame p (.reply false r)
      | none =>
        let a := carry q s
        a.1.answer p ⟨q.kind, q.tag, a.2.1, a.2.2⟩
    else s

/-- The kinds that are taken with the session CLOSED (R157, case 3). -/
def RequestKind.sessionless : RequestKind → Bool
  | .identify | .openSession => true
  | _ => false

/-- Cases 3 to 5 of R157: no session, a wrong length, or the block's own taking. -/
def carryOut (p : Port) (k : RequestKind) (block : List Byte → State → Answer) (q : Request) (s : State) : Answer :=
  if (s.ports.get p).session.isNone && !k.sessionless then refuse .noSession s
  else if q.payload.length ≠ k.length then refuse .badLength s
  else block q.payload s

/-- The step of a request row: the session layer of port `p` takes its oldest request, of kind `k` (R157). -/
def request (p : Port) (k : RequestKind) (block : List Byte → State → Answer) (s : State) : State :=
  takeRequest p (fun kind => kind == k.code) (carryOut p k block) s

/-- The oldest request of port `p` is of kind `k` and passes to its block (R157, case 5). -/
def State.passesToBlock (s : State) (p : Port) (k : RequestKind) : Bool :=
  match s.takable p with
  | none => false
  | some q => q.kind == k.code && (s.storedReply p q).isNone &&
      ((s.ports.get p).session.isSome || k.sessionless) && q.payload.length == k.length

/-- The outcome of a command: a next state (INVENTORY.md, "Faults"). -/
abbrev Result := Host.Outcome State Fault Refusal

end Sys2Proof.Machine
end

