-- ==== Sys2Proof/Machine/Alerts.lean ====
section
/-!
DEFINITION. The requests to the alert unit: CLEAR_ALERT and SET_SESSION_OPTIONS (R142, R144).
-/
namespace Sys2Proof.Machine

/-- A named number lies at or above the latest alert, however far below the latest alert has come to lie (R142). -/
def coversLatest (s : State) (n : Seq) : Bool :=
  match s.alert.latest with
  | some latest => s.alert.aged || atOrAbove s.journal.next n latest
  | none => true

/-- CLEAR_ALERT (R142). -/
def clearAlertBlock (bs : List Byte) (s : State) : Answer :=
  if s.alert.pending = false then (s, .ok, .alert false s.alert.latest)
  else if coversLatest s (fieldSeq bs 0) then
    ({ s with alert := { s.alert with pending := false, nAlertLow := false } }, .ok, .alert false s.alert.latest)
  else (s, .stale, .alert true s.alert.latest)

def execClearAlert (p : Port) (s : State) : Result :=
  .next (request p .clearAlert clearAlertBlock s)

/-- The alert-frames option is written: turned off, the session's waiting ALERT frames are withdrawn without counting
(R144, R141). -/
def applyAlertFrames (p : Port) (was now : Bool) (s : State) : State :=
  if was && !now then s.withdraw p Frame.isAlert else s

/-- The notices option is written: turned on with the flag set, the flag is cleared and a NOTICE offered; turned off, a
waiting NOTICE is withdrawn and, with the table not empty, the flag set (R144, R148). -/
def applyNotices (p : Port) (ses : Session) (was now : Bool) (s : State) : State :=
  if !was && now && ses.noticePending then
    queueNotice p (s.setSession p (some { ses with noticePending := false }))
  else if was && !now && (s.ports.get p).waiting.any Frame.isNotice then
    (s.withdraw p Frame.isNotice).setSession p
      (some { ses with noticePending := ses.noticePending || !s.exceptions.isEmpty })
  else s.setSession p (some ses)

/-- SET_SESSION_OPTIONS: all three options take their new values together (R144). -/
def setSessionOptionsBlock (p : Port) (bs : List Byte) (s : State) : Answer :=
  match sessionOptionsOf bs, (s.ports.get p).session with
  | none, _ => refuse .badValue s
  | some _, none => refuse .noSession s
  | some (alertFrames, threshold, notices), some ses =>
    let written := { ses with alertFrames := alertFrames, threshold := threshold, notices := notices }
    let s := applyNotices p written ses.notices notices (applyAlertFrames p ses.alertFrames alertFrames s)
    (s, .ok, .options alertFrames threshold notices ses.withdrawn s.alert.pending s.alert.latest)

def execSetSessionOptions (p : Port) (s : State) : Result :=
  .next (request p .setSessionOptions (setSessionOptionsBlock p) s)

end Sys2Proof.Machine
end

