-- ==== Sys2Proof/Machine/FrontEnd.lean ====
section
/-!
DEFINITION. The line front end and the event FIFO: sampling, confirmation, chatter lockout, held entries and their
admission, GET_LINES and TAKE_SNAPSHOT (R65 to R81).
-/
namespace Sys2Proof.Machine

/-! ### Offering and admitting entries (R77, R79) -/

/-- The entry with its WAS_HELD flag set (R77). -/
def FrontEntry.markHeld : FrontEntry → FrontEntry
  | .change e => .change { e with wasHeld := true }
  | .release e => .release { e with wasHeld := true }

/-- An offered entry can enter the FIFO: room, no switch DRAINING, no held entry waiting (R77). -/
def State.admits (s : State) : Bool :=
  !s.fifoFull && !s.draining && !s.anyHeld

/-- Line `i` offers an entry: it enters the FIFO, or waits in the line's held slot and EVENTS_HELD is raised (R77). -/
def offerEntry (i : LineNo) (e : FrontEntry) (s : State) : State :=
  if s.admits then { s with fifo := s.fifo ++ [.front e] }
  else raise .eventsHeld .none (s.setLine i { s.lines[i] with held := some e.markHeld })

/-- A line whose held slot has emptied: in LOCKED_OUT its release timer starts (R72, R79). -/
def Line.admitted (now : Uptime) (releaseMs : Nat) (l : Line) : Line :=
  { l with
    held := none
    release := match l.phase with
      | .lockedOut _ => some (afterMs now releaseMs)
      | .off | .idle | .confirming _ _ _ => l.release }

/-- The arbiter admits the held entry of line `i`, if the FIFO has room for it (R79). -/
def admitLine (s : State) (i : LineNo) : State :=
  match s.lines[i].held with
  | none => s
  | some e =>
    if s.fifoFull then s
    else { s with
      fifo := s.fifo ++ [.front e]
      lines := s.lines.set i (s.lines[i].admitted s.clock.uptime s.rules.active.lines[i].chatterReleaseMs) }

/-- Held entries are admitted in ascending line number while there is room, unless a switch is DRAINING (R79). -/
def admitHeld (s : State) : State :=
  if s.draining then s else (List.finRange 32).foldl admitLine s

/-- HELD_ENTRY_ADMISSION (R79). A take that makes room and the switch instant admit in their own steps (R78), so this
one finds entries to admit only where another event has left room beside them (log 17). -/
def execHeldEntryAdmission (s : State) : Result :=
  .next (admitHeld s)

/-! ### Confirmation and lockout (R67 to R71) -/

/-- The logical level of a raw level (R66). -/
def logicalLevel (polarity : Polarity) (raw : Bool) : Level :=
  match polarity, raw with
  | .normal, true | .inverted, false => .high
  | .normal, false | .inverted, true => .low

/-- The chatter count after one more confirmed change (R69). -/
def bumpChatter (n : Nat) : Nat := min 255 (n + 1)

/-- A confirmed change reaches a nonzero chatter limit (R71). -/
def locksOut (rule : LineRule) (count : Nat) : Bool :=
  rule.chatterLimit != 0 && rule.chatterLimit ≤ count

/-- The line enters lockout: CHATTER_LOCK is raised, the entry is offered, and the release timer starts if the held slot
is then empty (R69, R71, log 18). -/
def lockOut (i : LineNo) (level : Level) (e : FrontEntry) (s : State) : State :=
  let s := s.setLine i { s.lines[i] with phase := .lockedOut level, window := none, release := none }
  let s := offerEntry i e (raise .chatterLock (.line i) s)
  if s.lines[i].held.isSome then s
  else s.setLine i { s.lines[i] with
    release := some (afterMs s.clock.uptime s.rules.active.lines[i].chatterReleaseMs) }

/-- A change of line `i` to `level` is confirmed, with the captured stamp and uptime (R69). -/
def confirmChange (i : LineNo) (level : Level) (stamp : Stamp) (uptime : Uptime) (s : State) : State :=
  let rule := s.rules.active.lines[i]
  let count := bumpChatter s.lines[i].chatterCount
  let locks := locksOut rule count
  let e := FrontEntry.change ⟨i, level, stamp, uptime, if locks then some count else none, false⟩
  let s := s.setLine i { s.lines[i] with
    settled := level
    chatterCount := count
    window := if s.lines[i].chatterCount = 0 then some (afterMs s.clock.uptime rule.chatterWindowMs)
      else s.lines[i].window
    phase := .idle }
  if locks then lockOut i level e s else offerEntry i e s

/-! ### Sampling (R65, R67, R68, R72, R84) -/

/-- A line newly in CAPTURE is primed: its sample's level becomes its settled level and its classified level, with no
entry (R84, R119). -/
def primeLine (i : LineNo) (level : Level) (s : State) : State :=
  { s with
    lines := s.lines.set i { s.lines[i] with
      settled := level, phase := .idle, chatterCount := 0, window := none, release := none }
    classifier := { s.classifier with
      levels := putLine s.classifier.levels i (level == .high)
      awaiting := putLine s.classifier.awaiting i false } }

/-- An IDLE line sees a differing sample with its held slot empty: the change starts its confirmation, and a debounce of
1 confirms it at once (R67). -/
def startConfirmation (i : LineNo) (level : Level) (s : State) : State :=
  if s.rules.active.lines[i].debounce ≤ 1 then confirmChange i level s.stampNow s.clock.uptime s
  else s.setLine i { s.lines[i] with phase := .confirming 1 s.stampNow s.clock.uptime }

/-- A CONFIRMING line takes a sample: a bounce, one more sample at the new level, or the confirmation (R68). -/
def takeConfirming (i : LineNo) (level : Level) (count : Nat) (stamp : Stamp) (uptime : Uptime) (s : State) : State :=
  if level = s.lines[i].settled then s.setLine i { s.lines[i] with phase := .idle }
  else if s.rules.active.lines[i].debounce ≤ count + 1 then confirmChange i level stamp uptime s
  else s.setLine i { s.lines[i] with phase := .confirming (count + 1) stamp uptime }

/-- A LOCKED_OUT line takes a sample: one that changes restarts a running release timer (R72). -/
def takeLockedOut (i : LineNo) (changes : Bool) (s : State) : State :=
  if changes && s.lines[i].release.isSome then
    s.setLine i { s.lines[i] with
      release := some (afterMs s.clock.uptime s.rules.active.lines[i].chatterReleaseMs) }
  else s

/-- A line in CAPTURE takes the instant's sample, by its state (R65). `changes` says that its level differs from that of
the previous sample instant (R66). -/
def takeSample (i : LineNo) (level : Level) (changes : Bool) (s : State) : State :=
  match s.lines[i].phase with
  | .off => primeLine i level s
  | .idle => if level = s.lines[i].settled ∨ s.lines[i].held.isSome then s else startConfirmation i level s
  | .confirming count stamp uptime => takeConfirming i level count stamp uptime s
  | .lockedOut _ => takeLockedOut i changes s

/-- Line `i` at a sample instant: its raw level is recorded, and in CAPTURE it takes the sample (R65, R66, R86). -/
def sampleLine (pins : BitVec 32) (s : State) (i : LineNo) : State :=
  let raw := pins.getLsbD i.val
  let level := logicalLevel s.rules.active.lines[i].polarity raw
  let changes := level != s.lines[i].latest
  let s := s.setLine i { s.lines[i] with raw := raw, latest := level }
  if s.captures i then takeSample i level changes s else s

/-- The next sample instant after one taken now: the first of the schedule that lies ahead (R65, log 7). -/
def nextInstant (now scheduled : Uptime) (period : SamplePeriod) : Uptime :=
  afterUs scheduled ((elapsedUs now scheduled / period.micros + 1) * period.micros)

/-- All 32 pins are sampled; the lines take their samples in ascending line number (R65, R77). -/
def sampleAll (pins : BitVec 32) (s : State) : State :=
  (List.finRange 32).foldl (sampleLine pins)
    { s with nextSample := nextInstant s.clock.uptime s.nextSample s.rules.active.period }

/-- SAMPLE_INSTANT, once the uptime of the next sample instant is reached (R65, log 7). -/
def execSampleInstant (pins : BitVec 32) (s : State) : Result :=
  .next (if reached s.clock.uptime s.nextSample then sampleAll pins s else s)

/-! ### Chatter timers (R70, R73) -/

/-- CHATTER_WINDOW_EXPIRY: the chatter count becomes 0 and the timer stops (R70). -/
def execChatterWindowExpiry (i : LineNo) (s : State) : Result :=
  .next (if expired s.clock.uptime s.lines[i].window then
      s.setLine i { s.lines[i] with chatterCount := 0, window := none }
    else s)

/-- A LOCKED_OUT line is released, its RELEASE entry offered (R73). -/
def releaseLine (i : LineNo) (lockLevel : Level) (s : State) : State :=
  let level := s.lines[i].latest
  let e := FrontEntry.release ⟨i, lockLevel, level, s.stampNow, s.clock.uptime, false⟩
  offerEntry i e (s.setLine i { s.lines[i] with
    settled := level, phase := .idle, chatterCount := 0, release := none })

/-- RELEASE_TIMER_EXPIRY, once the release timer of a LOCKED_OUT line has reached its deadline (R73). -/
def execReleaseTimerExpiry (i : LineNo) (s : State) : Result :=
  .next (match s.lines[i].phase with
    | .lockedOut lockLevel =>
      if expired s.clock.uptime s.lines[i].release then releaseLine i lockLevel s else s
    | .off | .idle | .confirming _ _ _ => s)

/-! ### Requests (R80, R81) -/

/-- A line as GET_LINES reports it (R81). -/
def lineReport (l : Line) : LineReport :=
  ⟨l.raw, l.settled, l.phase.name, l.held.isSome, l.chatterCount⟩

/-- GET_LINES (R81). -/
def getLinesBlock (_ : List Byte) (s : State) : Answer :=
  (s, .ok, .lines (s.lines.toList.map lineReport) s.fifo.length)

def execGetLines (p : Port) (s : State) : Result :=
  .next (request p .getLines getLinesBlock s)

/-- TAKE_SNAPSHOT: BUSY when the FIFO is full, an entry is held or a switch is DRAINING; else a marker at the tail
(R80). -/
def takeSnapshotBlock (p : Port) (_ : List Byte) (s : State) : Answer :=
  if s.admits then ({ s with fifo := s.fifo ++ [.marker p] }, .ok, .none) else refuse .busy s

def execTakeSnapshot (p : Port) (s : State) : Result :=
  .next (request p .takeSnapshot (takeSnapshotBlock p) s)

end Sys2Proof.Machine
end

