-- ==== Sys2Proof/Machine/Incidents.lean ====
section
/-!
DEFINITION. The incident unit: calls from the classifier, closing, the two timers of each incident, CLOSE_INCIDENT,
LIST_INCIDENTS and the close of all at a switch instant (R46 to R62).
-/
namespace Sys2Proof.Machine

/-- A slot of the incident table takes a new content. -/
def State.setSlot (s : State) (i : SlotNo) (x : Option Incident) : State :=
  { s with incidents := { s.incidents with slots := s.incidents.slots.set i x } }

/-! ### Closing (R55) -/

/-- The INCIDENT_CLOSE body built from a slot at the close uptime (Table 3-7). -/
def closeBody (reason : CloseReason) (now : Uptime) (x : Incident) : CloseBody where
  id := x.id
  group := x.group
  reason := reason
  openingLine := x.openingLine
  members := x.members
  memberSet := x.memberSet
  firstStamp := x.firstStamp
  lastStamp := x.lastStamp
  spanUs := cap32 (elapsedUs x.lastUptime x.firstUptime)
  openUs := cap32 (elapsedUs now x.firstUptime)
  highest := x.highest

/-- The incident unit closes the incident in a slot and offers its INCIDENT_CLOSE record itself (R55). -/
def closeSlot (reason : CloseReason) (i : SlotNo) (x : Incident) (s : State) : State :=
  offer { body := .incidentClose (closeBody reason s.clock.uptime x) } (s.setSlot i none)

/-! ### Calls (R48) -/

/-- What the classifier hands over in a call (R48). -/
structure Call where
  line : LineNo
  group : GroupNo
  role : Role
  cls : ClassNo
  stamp : Stamp
  uptime : Uptime
deriving DecidableEq, Repr

/-- What the incident unit answers: the id to place in the record, whether the change opened the incident, and the
INCIDENT_CLOSE of an incident it closed (R48). -/
structure CallAnswer where
  id : Option IncidentId
  opened : Bool
  closed : Option CloseBody
deriving DecidableEq, Repr

/-- The answer "no incident" (R48). -/
def CallAnswer.noIncident : CallAnswer := ⟨none, false, none⟩

/-- The slot that holds the open incident of a group (R48). -/
def IncidentUnit.slotOfGroup (u : IncidentUnit) (g : GroupNo) : Option (SlotNo × Incident) :=
  (List.finRange 8).findSome? fun i =>
    match u.slots[i] with
    | some x => if x.group = g then some (i, x) else none
    | none => none

/-- The lowest-numbered FREE slot (R50). -/
def IncidentUnit.freeSlot (u : IncidentUnit) : Option SlotNo :=
  (List.finRange 8).find? fun i => u.slots[i].isNone

/-- Some open slot holds the id (R50). -/
def IncidentUnit.holdsId (u : IncidentUnit) (id : IncidentId) : Bool :=
  (List.finRange 8).any fun i =>
    match u.slots[i] with
    | some x => x.id == id
    | none => false

/-- The first id from `id` on that no open slot holds; eight slots can hold at most eight in a row (R50). -/
def IncidentUnit.freeId (u : IncidentUnit) : Nat → IncidentId → IncidentId
  | 0, id => id
  | n + 1, id => if u.holdsId id then u.freeId n (nextSkippingZero id) else id

/-- The incident that a call opens (R50). -/
def openedIncident (id : IncidentId) (rule : GroupRule) (c : Call) : Incident where
  id := id
  group := c.group
  openingLine := c.line
  firstStamp := c.stamp
  firstUptime := c.uptime
  lastStamp := c.stamp
  lastUptime := c.uptime
  openingUptime := c.uptime
  members := 1
  memberSet := putLine 0 c.line true
  highest := c.cls
  quietDeadline := afterMs c.uptime rule.settleMs
  durationDeadline := if rule.maxDurationMs = 0 then none else some (afterMs c.uptime rule.maxDurationMs)

/-- The incident with a call's change joined to it (R52). -/
def Incident.join (rule : GroupRule) (c : Call) (x : Incident) : Incident :=
  let x := { x with members := x.members + 1, memberSet := putLine x.memberSet c.line true,
                    highest := max x.highest c.cls }
  let x := if reached c.uptime x.firstUptime then x else { x with firstStamp := c.stamp, firstUptime := c.uptime }
  let x := if reached c.uptime x.lastUptime then { x with lastStamp := c.stamp, lastUptime := c.uptime } else x
  { x with quietDeadline := afterMs x.lastUptime rule.settleMs }

/-- An open or a join that leaves the member count equal to the member limit closes the incident (R53). -/
def limitReason (rule : GroupRule) (x : Incident) : Option CloseReason :=
  if x.members = rule.memberLimit then some .memberLimit else none

/-- The end of a call that leaves incident `x` in slot `i`, closed with a reason or open: the answer carries the id, and
a close's record travels in it (R48, R53, R54). -/
def finishCall (i : SlotNo) (x : Incident) (opened : Bool) (reason : Option CloseReason) (s : State) :
    State × CallAnswer :=
  match reason with
  | none => (s.setSlot i (some x), ⟨some x.id, opened, none⟩)
  | some r => (s.setSlot i none, ⟨some x.id, opened, some (closeBody r s.clock.uptime x)⟩)

/-- An OPEN_OR_JOIN call for a group with no open incident: opens in the lowest FREE slot, or, with none, raises
INCIDENT_TABLE_FULL (R50, R51). -/
def openCall (c : Call) (s : State) : State × CallAnswer :=
  match s.incidents.freeSlot with
  | none => (raise .incidentTableFull (.group c.group) s, .noIncident)
  | some i =>
    let rule := s.rules.active.groups[c.group]
    let id := s.incidents.freeId 8 s.incidents.nextId
    let x := openedIncident id rule c
    let s := { s with incidents := { s.incidents with nextId := nextSkippingZero id } }
    finishCall i x true (limitReason rule x) s

/-- A call for a group with an open incident: a join, which a CLOSE line or the member limit may turn into a close
(R52, R53, R54). -/
def joinCall (c : Call) (i : SlotNo) (x : Incident) (s : State) : State × CallAnswer :=
  let rule := s.rules.active.groups[c.group]
  let x := x.join rule c
  finishCall i x false (if c.role = .close then some .line else limitReason rule x) s

/-- The incident unit takes a call (Table 3-6). -/
def incidentCall (c : Call) (s : State) : State × CallAnswer :=
  match s.incidents.slotOfGroup c.group with
  | some (i, x) => joinCall c i x s
  | none => if c.role = .openOrJoin then openCall c s else (s, .noIncident)

/-! ### Timers (R56, R57) -/

/-- QUIET_TIMER_EXPIRY: once the quiet deadline is reached, the incident closes SETTLED (R56). An expiry during a call's
action is taken after it (R49). -/
def execQuietTimerExpiry (slot : SlotNo) (s : State) : Result :=
  .next (match s.incidents.slots[slot] with
    | none => s
    | some x => if reached s.clock.uptime x.quietDeadline && !s.inAction then closeSlot .settled slot x s else s)

/-- DURATION_TIMER_EXPIRY: once the duration deadline is reached, the incident closes DURATION (R57). An
expiry during a call's action is taken after it (R49). -/
def execDurationTimerExpiry (slot : SlotNo) (s : State) : Result :=
  .next (match s.incidents.slots[slot] with
    | none => s
    | some x => if expired s.clock.uptime x.durationDeadline && !s.inAction then closeSlot .duration slot x s else s)

/-! ### Requests (R60, R61) -/

/-- The OPEN slot that holds an id (R60). -/
def IncidentUnit.slotOfId (u : IncidentUnit) (id : IncidentId) : Option (SlotNo × Incident) :=
  (List.finRange 8).findSome? fun i =>
    match u.slots[i] with
    | some x => if x.id = id then some (i, x) else none
    | none => none

/-- CLOSE_INCIDENT, from the claimant (R60). -/
def closeIncidentBlock (p : Port) (bs : List Byte) (s : State) : Answer :=
  withClaim p s (
    if fieldInt bs 0 2 = 0 then refuse .badValue s
    else match s.incidents.slotOfId (BitVec.ofNat 16 (fieldInt bs 0 2)) with
      | none => refuse .notOpen s
      | some (i, x) => (closeSlot .host i x s, .ok, .none))

/-- CLOSE_INCIDENT. A request that would reach the incident unit during a call's action is taken after it (R49, R60). -/
def execCloseIncident (p : Port) (s : State) : Result :=
  .next (if s.inAction && s.passesToBlock p .closeIncident then s
    else request p .closeIncident (closeIncidentBlock p) s)

/-- A remaining time: the deadline minus the uptime, 0 once the deadline has passed (R61). -/
def remainingUs (now deadline : Uptime) : Nat :=
  if reached now deadline then 0 else elapsedUs deadline now

/-- A slot as LIST_INCIDENTS reports it (R61). -/
def incidentReport (now : Uptime) (i : SlotNo) (x : Incident) : IncidentReport :=
  ⟨i, x, remainingUs now x.quietDeadline, x.durationDeadline.map (remainingUs now)⟩

/-- The OPEN slots at or above a starting slot, in ascending order (R61). -/
def IncidentUnit.openFrom (u : IncidentUnit) (start : Nat) : List (SlotNo × Incident) :=
  (List.finRange 8).filterMap fun i => if start ≤ i.val then u.slots[i].map fun x => (i, x) else none

/-- LIST_INCIDENTS (R61). -/
def listIncidentsBlock (bs : List Byte) (s : State) : Answer :=
  match finOf 8 (fieldByte bs 0) with
  | none => refuse .badValue s
  | some start =>
    let found := s.incidents.openFrom start.val
    (s, .ok, .incidents s.incidents.nextId (s.incidents.openFrom 0).length
      ((found.take Config.slotsPerReply).map fun x => incidentReport s.clock.uptime x.1 x.2)
      (found[Config.slotsPerReply]?.map (·.1)))

def execListIncidents (p : Port) (s : State) : Result :=
  .next (request p .listIncidents listIncidentsBlock s)

/-! ### The switch instant (R62) -/

/-- One slot's part of the close of all: an open incident closes RULESET and is counted (R62). -/
def closeForSwitch (acc : State × Nat) (i : SlotNo) : State × Nat :=
  match acc.1.incidents.slots[i] with
  | none => acc
  | some x => (closeSlot .ruleset i x acc.1, acc.2 + 1)

/-- Every open incident closes RULESET in ascending slot order; the number closed is returned (R62). -/
def closeAllIncidents (s : State) : State × Nat :=
  (List.finRange 8).foldl closeForSwitch (s, 0)

end Sys2Proof.Machine
end

