-- ==== Sys2Proof/Machine/Classify.lean ====
section
/-!
DEFINITION. The classifier: it takes FIFO entries one at a time and turns each into the records the ACTIVE rules call
for (R113 to R118). Between the records of an entry in hand other events may fall (R4, R49, R113; log 16).
-/
namespace Sys2Proof.Machine

/-- The edge to a level is recorded (Table 6-5). -/
def Edges.selects (edges : Edges) (level : Level) : Bool :=
  match edges, level with
  | .rising, .high | .falling, .low | .both, _ => true
  | .rising, .low | .falling, .high | .none, _ => false

/-- The incident call of a selected edge: made when the line entry names a group and a role other than NONE (R115). -/
def callFor (rule : LineRule) (x : EdgeInfo) (s : State) : State × CallAnswer :=
  match rule.group with
  | none => (s, .noIncident)
  | some g =>
    if rule.role = .none then (s, .noIncident)
    else incidentCall ⟨x.line, g, rule.role, rule.cls, x.stamp, x.uptime⟩ s

/-- The LINE_CHANGE record of a selected edge (R9, R115, R117). -/
def lineChangeOffer (rule : LineRule) (x : EdgeInfo) (a : CallAnswer) : Offer where
  body := .lineChange x.line x.level rule.cls a.id
  stamp := some x.stamp
  flags := { alert := rule.alert, opensIncident := a.opened, afterChatter := x.afterChatter, wasHeld := x.wasHeld }

/-- The line entry asks for an incident call: it names a group and a role other than NONE (R115). -/
def LineRule.calls (rule : LineRule) : Bool :=
  rule.group.isSome && rule.role != .none

/-- The line's classified level becomes that of the change (R114, R117). -/
def setClassified (x : EdgeInfo) (s : State) : State :=
  { s with classifier := { s.classifier with levels := putLine s.classifier.levels x.line (x.level == .high) } }

/-- The records of a change itself: a LINE_CHANGE if the line entry selects its edge (R114, R117). -/
def edgeRecords (rule : LineRule) (x : EdgeInfo) : List RecordToBuild :=
  if rule.edges.selects x.level then [.lineChange] else []

/-- The line's classified level (R114). -/
def Classifier.level (c : Classifier) (i : LineNo) : Level :=
  if c.levels.getLsbD i.val then .high else .low

/-- The incident call and the LINE_CHANGE record; an INCIDENT_CLOSE that the call answered is to be built next (R115). -/
def buildLineChange (h : EntryInHand) (rest : List RecordToBuild) (s : State) : State × EntryInHand :=
  let r := callFor h.rule h.edge s
  (offer (lineChangeOffer h.rule h.edge r.2) r.1,
    { h with left := (r.2.closed.map .incidentClose).toList ++ rest, called := h.rule.calls })

/-- The CHATTER_ON record, and the line's lockout flag (R116). -/
def buildChatterOn (h : EntryInHand) (count : Nat) (s : State) : State :=
  let s := offer { body := .chatterOn h.edge.line h.edge.level count h.rule.cls, stamp := some h.edge.stamp,
                   flags := { wasHeld := h.edge.wasHeld } } s
  { s with classifier := { s.classifier with lockouts := putLine s.classifier.lockouts h.edge.line true } }

/-- One record of the entry in hand is built and offered, with `rest` to be built after it (R115, R116). -/
def buildRecord (h : EntryInHand) (r : RecordToBuild) (rest : List RecordToBuild) (s : State) : State × EntryInHand :=
  match r with
  | .lineChange => buildLineChange h rest s
  | .incidentClose c => (offer { body := .incidentClose c } s, { h with left := rest })
  | .chatterOn count => (buildChatterOn h count s, { h with left := rest })

/-- The entry is finished when no record is left to build; until then it stays in hand (R113). -/
def keepInHand (r : State × EntryInHand) : State :=
  match r.2.left with
  | [] => r.1
  | _ :: _ => { r.1 with classifier := { r.1.classifier with inHand := some (.entry r.2) } }

/-- The classifier goes on with an entry: its next record, if it has one, is taken by the journal (R4, R113, log 16). -/
def carryOn (h : EntryInHand) (s : State) : State :=
  match h.left with
  | [] => s
  | r :: rest => keepInHand (buildRecord h r rest s)

/-- A CHANGE entry is taken: the classified level is set, and its first record is built: LINE_CHANGE, or CHATTER_ON when
the edge is not selected (R114 to R116). -/
def classifyChange (rule : LineRule) (e : ChangeEntry) (s : State) : State :=
  let x : EdgeInfo := ⟨e.line, e.level, e.stamp, e.uptime, e.wasHeld, false⟩
  carryOn ⟨x, rule, edgeRecords rule x ++ (e.lockCount.map .chatterOn).toList, false⟩ (setClassified x s)

/-- A RELEASE entry is taken: the lockout flag cleared, and CHATTER_OFF; a release level that differs from the classified
level is then a change, whose LINE_CHANGE is to be built next (R117). -/
def classifyRelease (rule : LineRule) (e : ReleaseEntry) (s : State) : State :=
  let x : EdgeInfo := ⟨e.line, e.releaseLevel, e.stamp, e.uptime, e.wasHeld, true⟩
  let s := { s with classifier := { s.classifier with lockouts := putLine s.classifier.lockouts e.line false } }
  let s := offer { body := .chatterOff e.line e.lockLevel e.releaseLevel rule.cls, stamp := some e.stamp,
                   flags := { wasHeld := e.wasHeld } } s
  if e.releaseLevel = s.classifier.level e.line then s
  else keepInHand (setClassified x s, ⟨x, rule, edgeRecords rule x, false⟩)

/-- The SNAPSHOT record of a marker, from the classifier's state and the OFF lines read with it (R118). -/
def buildSnapshot (m : MarkerInHand) (s : State) : State :=
  offer { body := .snapshot s.classifier.levels s.classifier.lockouts m.offSet m.port } s

/-- A SNAPSHOT_MARKER: its record, or, while any line awaits priming, the marker is kept in hand (R118). -/
def classifyMarker (p : Port) (s : State) : State :=
  let m : MarkerInHand := ⟨p, s.rules.active.offSet⟩
  if s.classifier.awaiting = 0 then buildSnapshot m s
  else { s with classifier := { s.classifier with inHand := some (.marker m) } }

/-- An entry just taken is classified under the ACTIVE line entry read now (R113). -/
def classify (e : FifoEntry) (s : State) : State :=
  match e with
  | .front (.change c) => classifyChange s.rules.active.lines[c.line] c s
  | .front (.release r) => classifyRelease s.rules.active.lines[r.line] r s
  | .marker p => classifyMarker p s

/-- CLASSIFIER_TAKE_ENTRY: an idle classifier takes the oldest FIFO entry, held entries are admitted to the place it
leaves (R78, R79), and its first record is taken by the journal; with an entry in hand the next of its records is, so
that other events may fall between an entry's records (R4, R49, R113, log 16). -/
def execClassifierTakeEntry (s : State) : Result :=
  .next (match s.classifier.inHand, s.fifo with
    | some (.entry h), _ => carryOn h { s with classifier := { s.classifier with inHand := none } }
    | some (.marker _), _ => s
    | none, [] => s
    | none, e :: rest => classify e (admitHeld { s with fifo := rest }))

/-- DEFERRED_SNAPSHOT_BUILD: once the last awaiting-priming flag has cleared, the marker in hand yields its record
(R118). -/
def execDeferredSnapshotBuild (s : State) : Result :=
  .next (match s.classifier.inHand with
    | none | some (.entry _) => s
    | some (.marker m) =>
      if s.classifier.awaiting = 0 then
        buildSnapshot m { s with classifier := { s.classifier with inHand := none } }
      else s)

end Sys2Proof.Machine
end

