-- ==== Sys2Proof/Machine/Clock.lean ====
section
/-!
DEFINITION. The time base: SYNC pulses, its two timers, GET_TIME, SET_TIME and SET_TIME_OPTIONS (R88 to R102).
An event's changes of the time base are made first, and its records are then offered together (R91, R99, R100; log 11).
-/
namespace Sys2Proof.Machine

/-! ### Time records (R12, R90, R95) -/

/-- A change of the quality from `old` is reported by QUALITY_CHANGE, and leaving LOCKED raises TIME_DEGRADED (R90). The
raise comes after the record: the model's order (log 30). -/
def reportQuality (old : Quality) (s : State) : State :=
  if old = s.clock.quality then s
  else
    let s := offer { body := .qualityChange old s.clock.quality } s
    if old = .locked then raise .timeDegraded .none s else s

/-- A correction calls for a TIME_STEP record (R95). -/
def stepRecorded (threshold : Nat) (correction : Int) : Bool :=
  if threshold = 0 then correction ≠ 0 else threshold ≤ correction.natAbs

/-- TIME_STEP, if a correction was made and calls for it (R95). -/
def reportStep (correction : Option Int) (s : State) : State :=
  match correction with
  | none => s
  | some c => if stepRecorded s.clock.options.stepThresholdUs c then offer { body := .timeStep c } s else s

/-! ### Pulses (R94 to R99) -/

/-- The error of a pulse: the offset of the time of day from the nearest whole second (R95). -/
def pulseError (t : TimeOfDay) : Int :=
  if t.micros.val < 500000 then t.micros.val else (t.micros.val : Int) - 1000000

/-- The error lies within the capture window (R96, R97, R99). -/
def TimeBase.withinWindow (c : TimeBase) : Bool :=
  (pulseError c.timeOfDay).natAbs ≤ c.options.windowUs

/-- A correction adds minus the error to the time of day and becomes the last correction (R95). -/
def TimeBase.correct (c : TimeBase) : TimeBase :=
  { c with
    timeOfDay := c.timeOfDay.add (-pulseError c.timeOfDay)
    lastCorrection := some (-pulseError c.timeOfDay) }

/-- The time becomes LOCKED: counts 0, and the missing-pulse timer starts from the pulse (R96, R98). -/
def TimeBase.lock (c : TimeBase) : TimeBase :=
  { c with
    quality := .locked
    goodCount := 0
    outlierCount := 0
    holdover := none
    missingPulse := some (afterUs c.uptime Config.missingPulseUs) }

/-- A pulse handled in FREE: corrected, counted, and locking at the third good one (R96). -/
def TimeBase.freePulse (c : TimeBase) : TimeBase :=
  let good := if c.withinWindow then c.goodCount + 1 else 0
  if Config.goodToLock ≤ good then c.correct.lock else { c.correct with goodCount := good }

/-- A pulse handled in LOCKED (R97). -/
def TimeBase.lockedPulse (c : TimeBase) : TimeBase :=
  let timer := some (afterUs c.uptime Config.missingPulseUs)
  if c.withinWindow then { c.correct with outlierCount := 0, missingPulse := timer }
  else if c.outlierCount + 1 < Config.outliersToFree then
    { c with outlierCount := c.outlierCount + 1, missingPulse := timer }
  else { c with quality := .free, outlierCount := 0, missingPulse := none }.freePulse

/-- A pulse handled in HOLDOVER, which it ends (R99). -/
def TimeBase.holdoverPulse (c : TimeBase) : TimeBase :=
  if c.withinWindow then c.correct.lock
  else { c.correct with quality := .free, goodCount := 0, holdover := none }

/-- The time base after a pulse taken, by the quality in force (R94, R96, R97, R99). -/
def TimeBase.pulse (c : TimeBase) : TimeBase :=
  let c := { c with lastPulse := some c.uptime }
  match c.quality with
  | .unset => c
  | .free => c.freePulse
  | .locked => c.lockedPulse
  | .holdover => c.holdoverPulse

/-- The correction a pulse makes: none for an outlier that LOCKED rides through (R97). -/
def TimeBase.pulseCorrection (c : TimeBase) : Option Int :=
  match c.quality with
  | .unset => none
  | .free | .holdover => some (-pulseError c.timeOfDay)
  | .locked =>
    if !c.withinWindow && c.outlierCount + 1 < Config.outliersToFree then none
    else some (-pulseError c.timeOfDay)

/-- The edge is taken as a pulse: SYNC on, the selected direction, a time that is set, and no pulse taken less than
500 ms before (R94). -/
def TimeBase.takesPulse (c : TimeBase) (edge : SyncEdge) : Bool :=
  c.options.syncEnable && edge == c.options.syncEdge && c.quality != .unset &&
    match c.lastPulse with
    | none => true
    | some u => Config.pulseGuardUs ≤ elapsedUs c.uptime u

/-- A pulse is taken: the time base changes, then TIME_STEP and QUALITY_CHANGE are offered in that order (R95, R90). -/
def takePulse (s : State) : State :=
  reportQuality s.clock.quality (reportStep s.clock.pulseCorrection { s with clock := s.clock.pulse })

/-- SYNC_EDGE (R94). -/
def execSyncEdge (edge : SyncEdge) (s : State) : Result :=
  .next (if s.clock.takesPulse edge then takePulse s else s)

/-! ### Timers (R98, R99) -/

/-- The time base enters HOLDOVER: counts 0, and the holdover timer starts from the expiry (R98). A late expiry counts
from the uptime at which its command is taken: the model's choice (log 31). -/
def TimeBase.coast (c : TimeBase) : TimeBase :=
  { c with
    quality := .holdover
    goodCount := 0
    outlierCount := 0
    missingPulse := none
    holdover := some ⟨c.uptime, afterUs c.uptime (c.options.holdoverLimitS * 1000000)⟩ }

/-- MISSING_PULSE_TIMER_EXPIRY, in LOCKED once the timer has reached its deadline (R98). -/
def execMissingPulseTimerExpiry (s : State) : Result :=
  .next (if s.clock.quality == .locked && expired s.clock.uptime s.clock.missingPulse then
      reportQuality s.clock.quality { s with clock := s.clock.coast }
    else s)

/-- The holdover timer expires in HOLDOVER, once it has reached its deadline: the quality becomes FREE (R99). -/
def TimeBase.expireHoldover (c : TimeBase) : TimeBase :=
  if c.quality == .holdover && expired c.uptime (c.holdover.map (·.deadline)) then
    { c with quality := .free, holdover := none }
  else c

/-- HOLDOVER_TIMER_EXPIRY: the expiry, and the report of the quality it changes (R99, R90). -/
def execHoldoverTimerExpiry (s : State) : Result :=
  .next (reportQuality s.clock.quality { s with clock := s.clock.expireHoldover })

/-! ### Requests (R91 to R93, R102) -/

/-- The time base as GET_TIME reports it (R102). -/
def timeReport (c : TimeBase) : TimeReport where
  timeOfDay := c.timeOfDay
  quality := c.quality
  uptime := c.uptime
  lastCorrection := c.lastCorrection
  goodCount := c.goodCount
  outlierCount := c.outlierCount
  sinceLastPulseUs := c.lastPulse.map fun u => cap32 (elapsedUs c.uptime u)
  options := c.options

def getTimeBlock (_ : List Byte) (s : State) : Answer :=
  (s, .ok, .time (timeReport s.clock))

def execGetTime (p : Port) (s : State) : Result :=
  .next (request p .getTime getTimeBlock s)

/-- The time base after SET_TIME (R91, steps 2 to 4). -/
def TimeBase.setTime (t : TimeOfDay) (c : TimeBase) : TimeBase :=
  { c with
    timeOfDay := t
    quality := .free
    goodCount := 0
    outlierCount := 0
    missingPulse := none
    holdover := none }

/-- SET_TIME is taken whole (R91). -/
def setTimeTo (t : TimeOfDay) (s : State) : State :=
  reportQuality s.clock.quality
    (offer { body := .timeSet s.clock.timeOfDay t s.clock.quality } { s with clock := s.clock.setTime t })

/-- SET_TIME, from the claimant (R91). -/
def setTimeBlock (p : Port) (bs : List Byte) (s : State) : Answer :=
  withClaim p s (match timeOfDayOf bs with
    | none => refuse .badValue s
    | some t => (setTimeTo t s, .ok, .none))

def execSetTime (p : Port) (s : State) : Result :=
  .next (request p .setTime (setTimeBlock p) s)

/-- The SYNC function turned on: counts 0, last pulse and last correction absent, the quality unchanged (R93). -/
def TimeBase.syncOn (c : TimeBase) : TimeBase :=
  { c with goodCount := 0, outlierCount := 0, lastPulse := none, lastCorrection := none }

/-- The quality after the SYNC function is turned off (R93). -/
def Quality.syncOff : Quality → Quality
  | .unset => .unset
  | .free | .locked | .holdover => .free

/-- The SYNC function turned off: counts 0, last pulse and last correction absent, both timers stopped, and LOCKED or
HOLDOVER made FREE (R93). -/
def TimeBase.syncOff (c : TimeBase) : TimeBase :=
  { c with
    goodCount := 0
    outlierCount := 0
    lastPulse := none
    lastCorrection := none
    missingPulse := none
    holdover := none
    quality := c.quality.syncOff }

/-- A new SYNC enable value takes effect; the present value written again has none (R93). -/
def TimeBase.switchSync (was now : Bool) (c : TimeBase) : TimeBase :=
  match was, now with
  | false, true => c.syncOn
  | true, false => c.syncOff
  | false, false => c
  | true, true => c

/-- A new holdover limit sets a running holdover timer again, from the uptime at which HOLDOVER was entered, and a
deadline that then lies in the past expires straight away; the present value written again has no effect (R93, R99). -/
def TimeBase.limitHoldover (was : Nat) (c : TimeBase) : TimeBase :=
  if c.options.holdoverLimitS = was then c
  else
    let timer := c.holdover.map fun h =>
      { h with deadline := afterUs h.entered (c.options.holdoverLimitS * 1000000) }
    { c with holdover := timer }.expireHoldover

/-- The time base after all five options are written: the limit, then the SYNC enable, take effect (R92, R93). -/
def TimeBase.setOptions (o : TimeOptions) (c : TimeBase) : TimeBase :=
  ({ c with options := o }.limitHoldover c.options.holdoverLimitS).switchSync c.options.syncEnable o.syncEnable

/-- A validation in progress notes the SYNC enable value now in force (R124, log 12). -/
def SwitchPhase.noteSync (on : Bool) : SwitchPhase → SwitchPhase
  | .validating sawOn sawOff => .validating (sawOn || on) (sawOff || !on)
  | .idle => .idle
  | .draining => .draining

/-- The five options are written together, and a quality change they cause is reported (R92, R93). -/
def writeOptions (o : TimeOptions) (s : State) : State :=
  reportQuality s.clock.quality { s with
    clock := s.clock.setOptions o
    switch := { s.switch with phase := s.switch.phase.noteSync o.syncEnable } }

/-- Line 31 is in CAPTURE in the ACTIVE or the STAGED bank (R92). -/
def RuleStore.line31Captures (r : RuleStore) : Bool :=
  r.active.lines[31].mode == .capture || r.staged.lines[31].mode == .capture

/-- SET_TIME_OPTIONS, from the claimant; turning SYNC on is refused while line 31 is in CAPTURE (R92). -/
def setTimeOptionsBlock (p : Port) (bs : List Byte) (s : State) : Answer :=
  withClaim p s (match timeOptionsOf bs with
    | none => refuse .badValue s
    | some o =>
      if o.syncEnable && !s.clock.options.syncEnable && s.rules.line31Captures then refuse .syncConflict s
      else (writeOptions o s, .ok, .none))

def execSetTimeOptions (p : Port) (s : State) : Result :=
  .next (request p .setTimeOptions (setTimeOptionsBlock p) s)

end Sys2Proof.Machine
end

