-- ==== Sys2Proof/Machine/Delivery.lean ====
section
/-!
DEFINITION. The delivery unit: SUBSCRIBE, RESUME, UNSUBSCRIBE, ACK, DROP_READER, the queuing of RECORDS and GAP frames,
and the retransmit timer (R26 to R43).
-/
namespace Sys2Proof.Machine

/-! ### Subscription (R28) -/

/-- The sequence number a SUBSCRIBE starts at, from the journal as it stands (R28). -/
def startSeq (j : Journal) : SubscribeStart → Option Seq
  | .oldest => some (j.next - BitVec.ofNat 32 j.held.length)
  | .next => some j.next
  | .from_ n => if j.holds n || n == j.next then some n else none

/-- The reader a SUBSCRIBE sets up (R28). -/
def newSubscription (f : SubscribeFields) (start : Seq) : Subscription where
  state := .active
  ack := start - 1
  send := start
  window := f.window
  timeoutMs := f.timeoutMs
  retry := 0
  retain := f.retain
  timer := none
  gap := none

/-- The reader of port `p` is set up from `start`; a subscription it had is replaced whole, its waiting frames
withdrawn, and release is evaluated (R28, R43). -/
def subscribeReader (p : Port) (f : SubscribeFields) (start : Seq) (s : State) : State :=
  evaluateRelease
    ((s.withdraw p fun x => x.isRecords || x.isGap).setReader p (some (newSubscription f start)))

/-- SUBSCRIBE: the fields, then the start (R28). -/
def subscribeBlock (p : Port) (bs : List Byte) (s : State) : Answer :=
  match subscribeOf bs with
  | none => refuse .badValue s
  | some f =>
    match startSeq s.journal f.start with
    | none => refuse .notHeld s
    | some start => (subscribeReader p f start s, .ok, .points (start - 1) start)

def execSubscribe (p : Port) (s : State) : Result :=
  .next (request p .subscribe (subscribeBlock p) s)

/-! ### Resuming and ending (R38 to R40) -/

/-- A reader that goes back: send point after the ack point, timer stopped (R33, R38). -/
def Subscription.goBack (r : Subscription) : Subscription :=
  { r with send := r.ack + 1, timer := none }

/-- RESUME (R38, Table 2-4). -/
def resumeBlock (p : Port) (_ : List Byte) (s : State) : Answer :=
  let s' := withdrawRecords p s
  match s'.readers.get p with
  | none => refuse .notSubscribed s
  | some r =>
    let r := { r.goBack with state := .active, retry := 0 }
    (s'.setReader p (some r), .ok, .resumed r.ack r.send r.window r.gap.isSome)

def execResume (p : Port) (s : State) : Result :=
  .next (request p .resume (resumeBlock p) s)

/-- UNSUBSCRIBE (R39). -/
def unsubscribeBlock (p : Port) (_ : List Byte) (s : State) : Answer :=
  (endReader p s, .ok, .none)

def execUnsubscribe (p : Port) (s : State) : Result :=
  .next (request p .unsubscribe (unsubscribeBlock p) s)

/-- DROP_READER, from the claimant, ends the named reader (R40). -/
def dropReaderBlock (p : Port) (bs : List Byte) (s : State) : Answer :=
  withClaim p s (match portOf (fieldByte bs 0) with
    | none => refuse .badValue s
    | some reader => (endReader reader s, .ok, .none))

def execDropReader (p : Port) (s : State) : Result :=
  .next (request p .dropReader (dropReaderBlock p) s)

/-! ### Acknowledgement (R32) -/

/-- The reader after an advancing ACK: the point moves, retry 0, STALLED made ACTIVE, and the timer restarts if records
remain in flight or stops if none (R31, R32). -/
def Subscription.acknowledge (now : Uptime) (n : Seq) (r : Subscription) : Subscription :=
  let r := { r with ack := n, retry := 0, state := .active }
  { r with timer := if r.inFlight = 0 then none else some (afterMs now r.timeoutMs) }

/-- ACK against a reader that is ACTIVE or STALLED: the rows of Table 2-3 after the first (R32). -/
def ackReader (p : Port) (r : Subscription) (n : Seq) (s : State) : Answer :=
  if Config.seqBand < distance s.journal.next n then (s, .badAck, .ackPoint r.ack)
  else if atOrAbove s.journal.next n r.send then (s, .badAck, .ackPoint r.ack)
  else if atOrAbove s.journal.next r.ack n then (s, .ok, .ackPoint r.ack)
  else (evaluateRelease (s.setReader p (some (r.acknowledge s.clock.uptime n))), .ok, .ackPoint n)

/-- ACK (R32, Table 2-3). -/
def ackBlock (p : Port) (bs : List Byte) (s : State) : Answer :=
  match s.readers.get p with
  | none => refuse .notSubscribed s
  | some r =>
    match r.state with
    | .dormant => refuse .notSubscribed s
    | .active | .stalled => ackReader p r (fieldSeq bs 0) s

def execAck (p : Port) (s : State) : Result :=
  .next (request p .ack (ackBlock p) s)

/-! ### Sending (R29 to R31, R42) -/

/-- The records a RECORDS frame carries: consecutive held records from the send point, up to four, the room in the
window, the newest record and the record before an open marker (R29). The payload limit of 250 bytes is met by every
four records (R174). -/
def frameRecords (j : Journal) (r : Subscription) : List Record :=
  ((j.from_ r.send).takeWhile fun x => !x.isOpenMarker).take (min Config.recordsPerFrame (r.window - r.inFlight))

/-- The conditions on the reader under which an ACTIVE reader offers a RECORDS frame; the conditions on the journal are
that `frameRecords` finds a record (R29). -/
def maySend (waiting : List Frame) (r : Subscription) : Bool :=
  r.state == .active && r.inFlight < r.window && r.gap.isNone && !waiting.any Frame.isRecords

/-- The reader after a frame of `n` records is queued: the send point advances, and a stopped timer starts (R30,
R31). -/
def Subscription.queued (now : Uptime) (n : Nat) (r : Subscription) : Subscription :=
  { r with
    send := r.send + BitVec.ofNat 32 n
    timer := match r.timer with
      | some d => some d
      | none => some (afterMs now r.timeoutMs) }

/-- QUEUE_RECORDS_FRAME: when the conditions of R29 hold, the frame is queued (R29, R30). -/
def execQueueRecordsFrame (p : Port) (s : State) : Result :=
  .next (match s.readers.get p with
    | none => s
    | some r =>
      let rs := frameRecords s.journal r
      if maySend (s.ports.get p).waiting r && !rs.isEmpty then
        (s.queueFrame p (.records rs)).setReader p (some (r.queued s.clock.uptime rs.length))
      else s)

/-- An ACTIVE or STALLED reader (R42). -/
def Subscription.awake (r : Subscription) : Bool :=
  r.state != .dormant

/-- QUEUE_GAP_FRAME: an ACTIVE or STALLED reader with a pending gap, and no GAP frame of its own waiting, queues a GAP
frame and the pending gap is cleared (R42). -/
def execQueueGapFrame (p : Port) (s : State) : Result :=
  .next (match s.readers.get p with
    | none => s
    | some r =>
      match r.gap with
      | none => s
      | some (first, last) =>
        if r.awake && !(s.ports.get p).waiting.any Frame.isGap then
          (s.queueFrame p (.gap first last r.ack)).setReader p (some { r with gap := none })
        else s)

/-! ### Retransmission (R33) -/

/-- The reader after an expiry of its retransmit timer, its waiting frame already withdrawn (R33). -/
def Subscription.retried (r : Subscription) : Subscription :=
  if r.retry + 1 < Config.retryLimit then { r.goBack with retry := r.retry + 1 }
  else { r with retry := r.retry + 1, state := .stalled, timer := none }

/-- An ACTIVE reader's retransmit timer expires: it goes back, or stalls and DELIVERY_STALLED is raised (R33). -/
def retransmitExpiry (p : Port) (s : State) : State :=
  let s := withdrawRecords p s
  match s.readers.get p with
  | none => s
  | some r =>
    let s := s.setReader p (some r.retried)
    if r.retry + 1 < Config.retryLimit then s else raise .deliveryStalled (.port p) s

/-- RETRANSMIT_TIMER_EXPIRY, once the timer of an ACTIVE reader has reached its deadline (R33). -/
def execRetransmitTimerExpiry (p : Port) (s : State) : Result :=
  .next (match s.readers.get p with
    | none => s
    | some r =>
      if r.state == .active && expired s.clock.uptime r.timer then retransmitExpiry p s else s)

end Sys2Proof.Machine
end

