-- ==== Sys2Proof/Machine/Exceptions.lean ====
section
/-!
DEFINITION. The requests to the exception table: GET_EXCEPTIONS and CLEAR_EXCEPTION (R149, R150).
-/
namespace Sys2Proof.Machine

/-- GET_EXCEPTIONS (R149). -/
def getExceptionsBlock (_ : List Byte) (s : State) : Answer :=
  (s, .ok, .exceptions s.exceptions.slots.toList s.exceptions.overflow s.exceptions.lowest)

def execGetExceptions (p : Port) (s : State) : Result :=
  .next (request p .getExceptions getExceptionsBlock s)

/-- The table with one slot freed, or with every slot freed and the overflow flag cleared (R150). -/
def ExceptionTable.clear (t : ExceptionTable) : Option SlotNo → ExceptionTable
  | some i => { t with slots := t.slots.set i none }
  | none => ⟨Vector.replicate 8 none, false⟩

/-- CLEAR_EXCEPTION; a table left empty clears both notice-pending flags and withdraws waiting NOTICE frames (R150). -/
def clearExceptionBlock (bs : List Byte) (s : State) : Answer :=
  match clearExceptionOf bs with
  | none => refuse .badValue s
  | some which =>
    let s := { s with exceptions := s.exceptions.clear which }
    let s := if s.exceptions.isEmpty then forgetNotices .b (forgetNotices .a s) else s
    (s, .ok, .occupied s.exceptions.occupied s.exceptions.overflow)

def execClearException (p : Port) (s : State) : Result :=
  .next (request p .clearException clearExceptionBlock s)

end Sys2Proof.Machine
end

