-- ==== Sys2Proof/Machine/JournalRequests.lean ====
section
/-!
DEFINITION. The requests to the journal: READ_RECORDS, GET_JOURNAL_STATUS, CLEAR_JOURNAL, SET_JOURNAL_MODE
(R21 to R24, R44).
-/
namespace Sys2Proof.Machine

/-- READ_RECORDS: up to the asked count of held records from the start onward (R23). -/
def readRecordsBlock (bs : List Byte) (s : State) : Answer :=
  match readRecordsOf bs with
  | none => refuse .badValue s
  | some (start, count) =>
    if s.journal.holds start then (s, .ok, .records ((s.journal.from_ start).take count))
    else refuse .notHeld s

def execReadRecords (p : Port) (s : State) : Result :=
  .next (request p .readRecords readRecordsBlock s)

/-- A reader as GET_JOURNAL_STATUS reports it (R24). -/
def readerReport (r : Option Subscription) : ReaderReport :=
  ⟨readerState r, r.map fun r => (r.ack, r.send, r.window)⟩

/-- The journal's report; the oldest held number is the next one minus the count (R24). -/
def journalReport (s : State) : JournalReport where
  mode := s.journal.mode
  count := s.journal.held.length
  oldest := if s.journal.held.length = 0 then none
    else some (s.journal.next - BitVec.ofNat 32 s.journal.held.length)
  next := s.journal.next
  markerOpen := s.journal.markerOpen
  readerA := readerReport s.readers.a
  readerB := readerReport s.readers.b

def journalStatusBlock (_ : List Byte) (s : State) : Answer :=
  (s, .ok, .journal (journalReport s))

def execGetJournalStatus (p : Port) (s : State) : Result :=
  .next (request p .getJournalStatus journalStatusBlock s)

/-- A reader after a clear: points at the CLEARED record, nothing in flight, timer stopped, retry 0, STALLED made
ACTIVE, the pending gap kept (R21, R44). -/
def Subscription.cleared (cleared : Seq) (r : Subscription) : Subscription :=
  { r with
    ack := cleared - 1
    send := cleared
    timer := none
    retry := 0
    state := match r.state with
      | .stalled => .active
      | .active => .active
      | .dormant => .dormant }

/-- The first and last removed numbers of a CLEARED record, absent when nothing is removed (R14). -/
def removedRange (held : List Record) : Option (Seq × Seq) :=
  match held.head?, held.getLast? with
  | some first, some last => some (first.seq, last.seq)
  | _, _ => none

/-- The journal is cleared, whole: waiting RECORDS frames withdrawn, every record removed, CLEARED accepted, and the
points of every subscribed reader moved to it (R21, R44). -/
def clearJournal (s : State) : State :=
  let body := RecordBody.cleared s.journal.held.length (removedRange s.journal.held)
  let cleared := s.journal.next
  let s := withdrawRecords .b (withdrawRecords .a s)
  let s := acceptRecord body s.stampNow {} { s with journal := { s.journal with held := [] } }
  { s with readers :=
      ⟨s.readers.a.map (Subscription.cleared cleared), s.readers.b.map (Subscription.cleared cleared)⟩ }

def clearJournalBlock (p : Port) (_ : List Byte) (s : State) : Answer :=
  withClaim p s (clearJournal s, .ok, .none)

def execClearJournal (p : Port) (s : State) : Result :=
  .next (request p .clearJournal (clearJournalBlock p) s)

/-- The outcome of SET_JOURNAL_MODE (Table 1-6). -/
def setMode (mode : JournalMode) (s : State) : Answer :=
  match s.journal.mode, mode with
  | .halt, .halt => (s, .ok, .none)
  | .wrap, .wrap => (s, .ok, .none)
  | .halt, .wrap => ({ s with journal := { s.journal.closeMarker with mode := .wrap } }, .ok, .none)
  | .wrap, .halt =>
    if s.journal.held.length < Config.journalCapacity then
      ({ s with journal := { s.journal with mode := .halt } }, .ok, .none)
    else refuse .journalFull s

/-- SET_JOURNAL_MODE, from the claimant (R22). -/
def setJournalModeBlock (p : Port) (bs : List Byte) (s : State) : Answer :=
  withClaim p s (match journalModeOf (fieldByte bs 0) with
    | none => refuse .badValue s
    | some mode => setMode mode s)

def execSetJournalMode (p : Port) (s : State) : Result :=
  .next (request p .setJournalMode (setJournalModeBlock p) s)

end Sys2Proof.Machine
end

