-- ==== Sys2Proof/Machine/Ports.lean ====
section
/-!
DEFINITION. The link layers of the two ports: the byte layers, the frame receiver with its rescan, the request queue,
and the transmitter's arbitration (R152 to R156, R159).
-/
namespace Sys2Proof.Machine

/-! ### The frame receiver (R154) -/

/-- What the bytes after a SYNC byte amount to: a collection still open, one to discard, or an accepted frame and how
many bytes it took (R154). -/
inductive Collected where
  | incomplete
  | bad
  | good (q : Request) (used : Nat)
deriving DecidableEq, Repr

/-- Judge the bytes kept after a SYNC byte: a LEN above 250 at once, then the CRC once LEN plus 5 bytes have followed
(R154). -/
def collect (kept : List Byte) : Collected :=
  match kept with
  | [] => .incomplete
  | len :: _ =>
    if Config.maxPayload < len.toNat then .bad
    else if kept.length < len.toNat + 5 then .incomplete
    else if (crc16 (kept.take (len.toNat + 3))).toNat = fieldInt kept (len.toNat + 3) 2 then
      .good ⟨kept.getD 1 0, kept.getD 2 0, (kept.drop 3).take len.toNat⟩ (len.toNat + 5)
    else .bad

/-- What the receiver does with a run of bytes: discard a collection, or accept a frame. -/
inductive RxEvent where
  | discard
  | accept (q : Request)
deriving DecidableEq, Repr

/-- The receiver takes a run of bytes from HUNTING, passing over the first `skip` of them. A 0xC3 starts a collection of
the bytes after it; a discarded collection's bytes after its SYNC byte are scanned again; an accepted frame's bytes are
passed over (R154). -/
def scan : Nat → List Byte → List RxEvent × Receiver
  | _, [] => ([], .hunting)
  | skip + 1, _ :: bs => scan skip bs
  | 0, b :: bs =>
    if b = Config.syncByte then
      match collect bs with
      | .incomplete => ([], .collecting bs)
      | .bad => (.discard :: (scan 0 bs).1, (scan 0 bs).2)
      | .good q used => (.accept q :: (scan used bs).1, (scan used bs).2)
    else scan 0 bs

/-- The bytes of the collection in progress, its SYNC byte first. -/
def Receiver.buffer : Receiver → List Byte
  | .hunting => []
  | .collecting kept => Config.syncByte :: kept

/-! ### Accepted frames and the request queue (R155, R156, R163) -/

/-- A valid frame from the host sets the session timer again (R163). -/
def touchSession (p : Port) (s : State) : State :=
  match (s.ports.get p).session with
  | none => s
  | some ses => s.setSession p (some { ses with deadline := afterMs s.clock.uptime ses.timeoutMs })

/-- A request arrives at the request queue: discarded for a queued tag, answered QUEUE_FULL, or placed at the tail
(R156). -/
def requestArrival (p : Port) (q : Request) (s : State) : State :=
  let port := s.ports.get p
  if q.tag ≠ 0 ∧ port.requests.any (fun r => r.tag == q.tag) then s
  else if Config.requestCapacity ≤ port.requests.length then
    if port.waiting.any Frame.isLinkReply then s
    else s.queueFrame p (.reply true ⟨q.kind, q.tag, .queueFull, .none⟩)
  else s.setPort p { port with requests := port.requests ++ [q] }

/-- An accepted frame is handled by its KIND; reply and unsolicited kinds are discarded (R155). -/
def acceptFrame (p : Port) (q : Request) (s : State) : State :=
  let s := touchSession p s
  if isPartKind q.kind then s else requestArrival p q s

/-- One event of the receiver: a discard raises LINK_ERROR with the port as subject (R154). -/
def rxEvent (p : Port) (s : State) : RxEvent → State
  | .discard => raise .linkError (.port p) s
  | .accept q => acceptFrame p q s

/-- The receiver's state after a run of bytes; a collection left open runs its gap timer from now (R154, log 10). -/
def setReceiver (p : Port) (r : Receiver) (s : State) : State :=
  s.setPort p { s.ports.get p with
    receiver := r
    gapTimer := match r with
      | .hunting => none
      | .collecting _ => some (afterUs s.clock.uptime Config.gapLimitUs) }

/-- The receiver takes a run of bytes from HUNTING (R154). -/
def feed (p : Port) (bs : List Byte) (s : State) : State :=
  setReceiver p (scan 0 bs).2 ((scan 0 bs).1.foldl (rxEvent p) s)

/-- The collection in progress is discarded: LINK_ERROR, then the bytes kept after its SYNC byte are scanned again
(R154). -/
def discardCollection (p : Port) (kept : List Byte) (s : State) : State :=
  feed p kept (raise .linkError (.port p) s)

/-! ### The transmitter (R159) -/

/-- The lowest rank among waiting frames. -/
def bestRank (fs : List Frame) : Nat :=
  fs.foldl (fun m f => min m f.rank) 5

/-- The frame the transmitter picks: by kind, and within one kind the frame queued first (R159). -/
def pick (fs : List Frame) : Option Frame :=
  fs.find? fun f => f.rank == bestRank fs

/-- The frames that stay waiting after the pick. -/
def afterPick (fs : List Frame) : List Frame :=
  eraseFirst (fun f => f.rank == bestRank fs) fs

/-- A reply of the session layer has begun: its request leaves the queue, and the next may be taken (R157, R159). -/
def PortState.releaseRequest (x : PortState) (f : Frame) : PortState :=
  match f with
  | .reply false _ => if x.inHand then { x with inHand := false, requests := x.requests.tail } else x
  | _ => x

/-- An idle transmitter picks the next waiting frame and it begins (R159). -/
def beginFrame (p : Port) (s : State) : State :=
  match (s.ports.get p).sending, pick (s.ports.get p).waiting with
  | none, some f =>
    s.setPort p ({ s.ports.get p with
      waiting := afterPick (s.ports.get p).waiting
      sending := some ⟨f, 0⟩ }.releaseRequest f)
  | _, _ => s

/-- TRANSMIT_FRAME_BEGIN: an idle transmitter picks the next waiting frame and it begins (R159). -/
def execTransmitFrameBegin (p : Port) (s : State) : Result :=
  .next (beginFrame p s)

/-- The last byte of the frame has left: on Port B its eighth clock has come (R159). On Port A the command itself says
so (log 13). -/
def Sending.finished (x : Sending) : Port → Bool
  | .a => true
  | .b => x.frame.bytes.length ≤ x.sent

/-- The frame is the RESTART reply whose completion the reset awaits (R166). -/
def Frame.isRestartReply : Frame → Bool
  | .reply false r => r.kind == RequestKind.restart.code && r.status == .ok
  | _ => false

/-- A reset awaits the completion of frame `f` on port `p` (R166). -/
def State.resetAwaits (s : State) (p : Port) (f : Frame) : Bool :=
  match s.restart with
  | none => false
  | some r => r.port == p && f.isRestartReply

/-! ### The byte layers (R152, R153) -/

/-- Port B when the host clocks a byte: a frame whose last byte has been clocked out has completed, unless a reset
awaits its completion, and an idle transmitter makes its pick at this byte (R159, log 14). That holds too for the first
byte of a selection whose predecessor cut a filler byte short: with a frame queued in between, R153 read by its words
would send the filler again, R159 the SYNC byte, and the SYNC byte is the model's choice (log 33). -/
def readyPortB (s : State) : State :=
  match s.ports.b.sending with
  | none => beginFrame .b s
  | some x =>
    if x.finished .b && !s.resetAwaits .b x.frame then beginFrame .b (s.setPort .b { s.ports.b with sending := none })
    else s

/-- Port B shifts out one byte for the byte it takes: the next byte of the frame in transmission, or filler (R153). -/
def clockOut (s : State) : State :=
  match s.ports.b.sending with
  | none => { s with spi := ⟨true, Config.fillerByte⟩ }
  | some x =>
    let sent := if x.sent < x.frame.bytes.length then x.sent + 1 else x.sent
    { s with
      spi := ⟨true, x.frame.bytes.getD x.sent Config.fillerByte⟩
      ports := s.ports.set .b { s.ports.b with sending := some { x with sent := sent } } }

/-- A byte reaches the receiver of port `p` (R154). -/
def takeByte (p : Port) (b : Byte) (s : State) : State :=
  feed p ((s.ports.get p).receiver.buffer ++ [b]) s

/-- A Port A byte whose stop bit reads low is dropped; a collection in progress is discarded (R152). -/
def framingError (p : Port) (s : State) : State :=
  match (s.ports.get p).receiver with
  | .hunting => s
  | .collecting kept => discardCollection p kept s

/-- RECEIVE_BYTE (R152, R153, R154). On Port B the byte clocked in is matched by one clocked out, the first of a
waiting frame when the transmitter is idle (R159), and no stop bit is sampled. A request whose reply the byte begins
departs before a request that the byte completes arrives: R156 allows either order, and this one is the model's choice
(log 32). -/
def execReceiveByte (p : Port) (b : Byte) (stopLow : Bool) (s : State) : Result :=
  .next (match p with
    | .a => if stopLow then framingError .a s else takeByte .a b s
    | .b => takeByte .b b (clockOut (readyPortB s)))

/-- SELECTION_END: nCS goes high. The unfinished byte `_bits` is dropped, and since only whole bytes count as sent, the
byte being sent is sent again in full at the next selection (R153); for a filler byte, with a frame queued before that
selection, log 33. -/
def execSelectionEnd (_bits : List Bool) (s : State) : Result :=
  .next { s with spi := { s.spi with selected := false } }

/-- GAP_TIMER_EXPIRY: the collection is discarded and its bytes scanned again (R154). -/
def execGapTimerExpiry (p : Port) (s : State) : Result :=
  .next (match (s.ports.get p).receiver with
    | .hunting => s
    | .collecting kept =>
      if expired s.clock.uptime (s.ports.get p).gapTimer then discardCollection p kept s else s)

/-! ### Completion (R159, R166) -/

/-- The reset that follows the completion of frame `f` on port `p`, if a RESTART awaits it (R166). -/
def restartAfter (p : Port) (f : Frame) (straps : Straps) (s : State) : State :=
  match s.restart with
  | none => s
  | some r => if r.port = p ∧ f.isRestartReply = true then resetPart r.option.cause straps s else s

/-- TRANSMIT_FRAME_COMPLETE: the transmitter is free; after the RESTART reply the reset follows (R159, R166). -/
def execTransmitFrameComplete (p : Port) (straps : Straps) (s : State) : Result :=
  .next (match (s.ports.get p).sending with
    | none => s
    | some x =>
      if x.finished p then
        restartAfter p x.frame straps (s.setPort p { s.ports.get p with sending := none })
      else s)

end Sys2Proof.Machine
end

