-- ==== Sys2Proof/Machine/Resets.lean ====
section
/-!
DEFINITION. The reset commands: POWER_ON_RESET, PIN_RESET and RESTART_TIMER_EXPIRY (R25, R166, R167).
-/
namespace Sys2Proof.Machine

/-- POWER_ON_RESET: every block takes its reset values, with cause POWER_ON (R25, R167). -/
def execPowerOnReset (straps : Straps) (s : State) : Result :=
  .next (resetPart .powerOn straps s)

/-- PIN_RESET: every block takes its reset values, with cause PIN (R25, R167). -/
def execPinReset (straps : Straps) (s : State) : Result :=
  .next (resetPart .pin straps s)

/-- RESTART_TIMER_EXPIRY: once the restart timer has reached its deadline, the requested reset follows (R166). -/
def execRestartTimerExpiry (straps : Straps) (s : State) : Result :=
  .next (match s.restart with
    | none => s
    | some r =>
      if reached s.clock.uptime r.deadline then resetPart r.option.cause straps s else s)

end Sys2Proof.Machine
end

