-- ==== Sys2Proof/Machine/Rules.lean ====
section
/-!
DEFINITION. The rule store's requests: READ_RULE and the staged-editing requests (R107 to R111).
-/
namespace Sys2Proof.Machine

/-- The bank a request names. -/
def RuleStore.bank (r : RuleStore) : BankName → Bank
  | .active => r.active
  | .staged => r.staged

/-- The entry of a bank that a request names (R111). -/
def Bank.entry (b : Bank) : RuleIndex → RuleEntry
  | .line i => .line b.lines[i]
  | .group g => .group b.groups[g]
  | .global => .global b.period

/-- READ_RULE (R111); the index is echoed as named. -/
def readRuleBlock (bs : List Byte) (s : State) : Answer :=
  match readRuleOf bs with
  | none => refuse .badValue s
  | some (bank, kind, index) =>
    (s, .ok, .rule ⟨bank, kind, fieldByte bs 2, s.rules.generation, s.switchInProgress,
      (s.rules.bank bank).entry index⟩)

def execReadRule (p : Port) (s : State) : Result :=
  .next (request p .readRule readRuleBlock s)

/-- The STAGED bank is written, unless a switch is in progress (R107, check 3). -/
def editStaged (edit : Bank → Bank) (s : State) : Answer :=
  if s.switchInProgress then refuse .busy s
  else ({ s with rules := { s.rules with staged := edit s.rules.staged } }, .ok, .none)

/-- WRITE_LINE_RULE: the claim, the fields, the switch state, in that order (R107). -/
def writeLineRuleBlock (p : Port) (bs : List Byte) (s : State) : Answer :=
  withClaim p s (match writeLineRuleOf bs with
    | none => refuse .badValue s
    | some (i, r) => editStaged (fun b => { b with lines := b.lines.set i r }) s)

def execWriteLineRule (p : Port) (s : State) : Result :=
  .next (request p .writeLineRule (writeLineRuleBlock p) s)

/-- WRITE_GROUP_RULE (R108). -/
def writeGroupRuleBlock (p : Port) (bs : List Byte) (s : State) : Answer :=
  withClaim p s (match writeGroupRuleOf bs with
    | none => refuse .badValue s
    | some (g, r) => editStaged (fun b => { b with groups := b.groups.set g r }) s)

def execWriteGroupRule (p : Port) (s : State) : Result :=
  .next (request p .writeGroupRule (writeGroupRuleBlock p) s)

/-- WRITE_GLOBAL_RULE (R108). -/
def writeGlobalRuleBlock (p : Port) (bs : List Byte) (s : State) : Answer :=
  withClaim p s (match writeGlobalRuleOf bs with
    | none => refuse .badValue s
    | some period => editStaged (fun b => { b with period := period }) s)

def execWriteGlobalRule (p : Port) (s : State) : Result :=
  .next (request p .writeGlobalRule (writeGlobalRuleBlock p) s)

/-- COPY_ACTIVE_TO_STAGED (R109). -/
def copyActiveBlock (p : Port) (_ : List Byte) (s : State) : Answer :=
  withClaim p s (editStaged (fun _ => s.rules.active) s)

def execCopyActiveToStaged (p : Port) (s : State) : Result :=
  .next (request p .copyActiveToStaged (copyActiveBlock p) s)

end Sys2Proof.Machine
end

