-- ==== Sys2Proof/Machine/Sessions.lean ====
section
/-!
DEFINITION. The session layer's own requests and the session timer: unknown kinds, IDENTIFY, OPEN, CLOSE, PING, CLAIM,
RELEASE, RESTART and SESSION_TIMER_EXPIRY (R157, R160 to R166).
-/
namespace Sys2Proof.Machine

/-- UNKNOWN_KIND_REQUEST: the request in hand is of a kind no table names; the session is not asked for (R157). -/
def execUnknownKindRequest (p : Port) (s : State) : Result :=
  .next (takeRequest p (fun kind => !isRequestKind kind) (fun _ s => refuse .unknownKind s) s)

/-- IDENTIFY, taken in both session states, changes nothing (R161). -/
def identifyBlock (p : Port) (_ : List Byte) (s : State) : Answer :=
  (s, .ok, .identify s.resetCause s.clock.uptime ((s.ports.get p).session.map (·.number)))

def execIdentify (p : Port) (s : State) : Result :=
  .next (request p .identify (identifyBlock p) s)

/-- The session that an OPEN opens: options at their values at open, notice-pending set if the exception table is not
empty (R160, R148). -/
def newSession (number : SessionNumber) (timeoutMs : Nat) (s : State) : Session where
  number := number
  timeoutMs := timeoutMs
  deadline := afterMs s.clock.uptime timeoutMs
  alertFrames := false
  threshold := 0
  notices := false
  withdrawn := 0
  noticePending := !s.exceptions.isEmpty

/-- A new session opens on port `p` with the next session number (R160, steps 2 and 3). -/
def startSession (p : Port) (timeoutMs : Nat) (s : State) : State :=
  let number := (s.ports.get p).nextSession
  s.setPort p { s.ports.get p with
    session := some (newSession number timeoutMs s)
    nextSession := nextSkippingZero number }

/-- OPEN: version, then timeout; a session already open ends first (R160). -/
def openBlock (p : Port) (bs : List Byte) (s : State) : Answer :=
  if fieldByte bs 0 ≠ Config.protocolVersion then refuse .badVersion s
  else match within 100 60000 (fieldInt bs 1 2) with
    | none => refuse .badValue s
    | some timeoutMs =>
      let s := startSession p timeoutMs (endSession p s)
      let number := ((s.ports.get p).session.map (·.number)).getD 0
      (s, .ok, .opened number (readerState (s.readers.get p)) (s.claimState p))

def execOpenSession (p : Port) (s : State) : Result :=
  .next (request p .openSession (openBlock p) s)

/-- CLOSE: answered OK, and the session ends (R162). The end leaves waiting replies in the queue, so the reply is queued
as it would be before it (R164). -/
def closeBlock (p : Port) (_ : List Byte) (s : State) : Answer :=
  (endSession p s, .ok, .none)

def execCloseSession (p : Port) (s : State) : Result :=
  .next (request p .closeSession (closeBlock p) s)

/-- PING is answered with the uptime (R161). -/
def pingBlock (_ : List Byte) (s : State) : Answer :=
  (s, .ok, .uptime s.clock.uptime)

def execPing (p : Port) (s : State) : Result :=
  .next (request p .ping pingBlock s)

/-- CLAIM: taken if free; HELD_BY_OTHER when the other port's session holds it (R165). -/
def claimBlock (p : Port) (_ : List Byte) (s : State) : Answer :=
  match s.claim, (s.ports.get p).session with
  | none, some ses => ({ s with claim := some ⟨p, ses.number⟩ }, .ok, .claim .held)
  | _, _ => if s.holdsClaim p then (s, .ok, .claim .held) else (s, .heldByOther, .claim (s.claimState p))

def execClaim (p : Port) (s : State) : Result :=
  .next (request p .claim (claimBlock p) s)

/-- RELEASE frees the claim if this session holds it (R165). -/
def releaseBlock (p : Port) (_ : List Byte) (s : State) : Answer :=
  if s.holdsClaim p then ({ s with claim := none }, .ok, .claim .free)
  else (s, .notClaimant, .claim (s.claimState p))

def execReleaseClaim (p : Port) (s : State) : Result :=
  .next (request p .releaseClaim (releaseBlock p) s)

/-- RESTART, from the claimant: the restart timer starts, and both session layers stop taking requests (R166). -/
def restartBlock (p : Port) (bs : List Byte) (s : State) : Answer :=
  withClaim p s (match restartOptionOf (fieldByte bs 0) with
    | none => refuse .badValue s
    | some o => ({ s with restart := some ⟨afterUs s.clock.uptime Config.restartUs, o, p⟩ }, .ok, .none))

def execRestart (p : Port) (s : State) : Result :=
  .next (request p .restart (restartBlock p) s)

/-- A session ends by timeout: its end, then the last-reply store emptied, then SESSION_LOST (R163). -/
def loseSession (p : Port) (s : State) : State :=
  let s := endSession p s
  raise .sessionLost (.port p) (s.setPort p { s.ports.get p with lastReply := none })

/-- SESSION_TIMER_EXPIRY, once the session timer has reached its deadline (R163). -/
def execSessionTimerExpiry (p : Port) (s : State) : Result :=
  .next (match (s.ports.get p).session with
    | none => s
    | some ses => if reached s.clock.uptime ses.deadline then loseSession p s else s)

end Sys2Proof.Machine
end

