-- ==== Sys2Proof/Machine/Switching.lean ====
section
/-!
DEFINITION. The switch controller: SWITCH_RULES, validation, the switch instant, ABORT_SWITCH and GET_SWITCH_STATUS, and
the parts that the rule store, the front end and the classifier take in a switch instant (R82 to R85, R112, R119, R122
to R136).
-/
namespace Sys2Proof.Machine

/-! ### Requesting and reporting (R123, R134) -/

/-- SWITCH_RULES, from the claimant (R123). -/
def switchRulesBlock (p : Port) (_ : List Byte) (s : State) : Answer :=
  withClaim p s (
    if s.switchInProgress then refuse .busy s
    else
      let on := s.clock.options.syncEnable
      ({ s with switch := { s.switch with
          phase := .validating on !on
          requester := (s.ports.get p).session.map fun ses => ⟨p, ses.number⟩ } }, .accepted, .none))

def execSwitchRules (p : Port) (s : State) : Result :=
  .next (request p .switchRules (switchRulesBlock p) s)

/-- The requester's session is still open (R134). -/
def State.requesterOpen (s : State) (h : Holder) : Bool :=
  match (s.ports.get h.port).session with
  | some ses => ses.number == h.session
  | none => false

/-- The switch ends: the state becomes IDLE with an outcome (R126, R131, R133). -/
def endSwitch (o : SwitchOutcome) (s : State) : State :=
  { s with switch := { s.switch with phase := .idle, outcome := o } }

/-- A SWITCH_DONE frame with the last outcome is offered to the requester's port, if its session is still open
(R134). -/
def offerSwitchDone (s : State) : State :=
  match s.switch.requester with
  | none => s
  | some h => if s.requesterOpen h then s.queueFrame h.port (.switchDone s.switch.outcome) else s

/-! ### Validation (R124, R125) -/

/-- The line checks, in the table's order (Table 7-3). -/
def lineFault (b : Bank) (syncOn : Bool) (i : LineNo) : Option RejectReason :=
  let r := b.lines[i]
  if r.role ≠ .none ∧ r.group = none then some .roleWithoutGroup
  else if i = 31 ∧ r.mode = .capture ∧ syncOn = true then some .syncConflict
  else if 2 ≤ r.chatterLimit ∧ r.chatterWindowMs * 1000 < r.chatterLimit * r.debounce * b.period.micros then
    some .chatterUnreachable
  else none

/-- Some line entry names the group and has one of the roles (R125). -/
def Bank.groupHas (b : Bank) (g : GroupNo) (f : Role → Bool) : Bool :=
  (List.finRange 32).any fun i => b.lines[i].group == some g && f b.lines[i].role

/-- The group checks, for a group that some line names, in the table's order (Table 7-3). -/
def groupFault (b : Bank) (g : GroupNo) : Option RejectReason :=
  if b.groupHas g (fun _ => true) then
    if b.groupHas g (fun r => r == .joinOnly || r == .close) ∧ ¬ b.groupHas g (fun r => r == .openOrJoin) then
      some .groupNeverOpens
    else if b.groups[g].maxDurationMs ≠ 0 ∧ b.groups[g].maxDurationMs < b.groups[g].settleMs then
      some .durationBelowSettle
    else none
  else none

/-- The walk of validation: lines 0 to 31, then groups 0 to 15, to the first check that fails (R124). -/
def validate (b : Bank) (syncOn : Bool) : Option Rejection :=
  match (List.finRange 32).findSome? fun i => (lineFault b syncOn i).map fun r => (⟨.line, i.val, r⟩ : Rejection) with
  | some x => some x
  | none => (List.finRange 16).findSome? fun g => (groupFault b g).map fun r => (⟨.group, g.val, r⟩ : Rejection)

/-- A failed check: the switch is rejected (R126). -/
def rejectSwitch (r : Rejection) (s : State) : State :=
  offerSwitchDone (raise .switchRejected .none (endSwitch (.rejected r) s))

/-- The SYNC enable value that the check of line 31 saw: the one named, if it was in force at some time during the
validation, else the present one (R124, log 12). -/
def syncSeen (syncRead sawOn sawOff present : Bool) : Bool :=
  if (if syncRead then sawOn else sawOff) then syncRead else present

/-- VALIDATION_COMPLETION: the switch is rejected, or enters DRAINING (R124, R126, R127). -/
def execValidationCompletion (syncRead : Bool) (s : State) : Result :=
  .next (match s.switch.phase with
    | .validating sawOn sawOff =>
      match validate s.rules.staged (syncSeen syncRead sawOn sawOff s.clock.options.syncEnable) with
      | some r => rejectSwitch r s
      | none => { s with switch := { s.switch with phase := .draining } }
    | .idle | .draining => s)

/-! ### The switch instant (R130, R131) -/

/-- The rule store exchanges the banks and advances the generation (R112). -/
def exchangeBanks (s : State) : State :=
  { s with rules := ⟨s.rules.staged, s.rules.staged, nextSkippingZero s.rules.generation⟩ }

/-- A line that leaves CAPTURE (R85). -/
def Line.leaveCapture (l : Line) : Line :=
  { l with phase := .off, chatterCount := 0, window := none, release := none, held := none }

/-- A line that goes from OFF to CAPTURE waits in OFF to be primed, with nothing counted, timed or held (R84). -/
def Line.awaitPriming (l : Line) : Line :=
  { l with phase := .off, chatterCount := 0, window := none, release := none, held := none }

/-- A line at a switch instant, by its old and new mode (R82, R84, R85). -/
def Line.switchModes (l : Line) : Mode → Mode → Line
  | .capture, .off => l.leaveCapture
  | .off, .capture => l.awaitPriming
  | .capture, .capture => l
  | .off, .off => l

/-- The front end takes line `i`'s new entry (R82). -/
def frontEndLine (old : Bank) (s : State) (i : LineNo) : State :=
  s.setLine i (s.lines[i].switchModes old.lines[i].mode s.rules.active.lines[i].mode)

/-- The next sample instant after a switch instant: a new period counts from the switch instant (R65, R83). -/
def switchPeriod (old : Bank) (s : State) : State :=
  if old.period = s.rules.active.period then s
  else { s with nextSample := afterUs s.clock.uptime s.rules.active.period.micros }

/-- The front end's part of the switch instant (R82 to R85, R65). -/
def frontEndSwitch (old : Bank) (s : State) : State :=
  switchPeriod old ((List.finRange 32).foldl (frontEndLine old) s)

/-- The classifier's flags of line `i` at a switch instant (R119). -/
def Classifier.switchModes (c : Classifier) (i : LineNo) : Mode → Mode → Classifier
  | .off, .capture =>
    { c with awaiting := putLine c.awaiting i true, lockouts := putLine c.lockouts i false }
  | .capture, .off =>
    { c with awaiting := putLine c.awaiting i false, lockouts := putLine c.lockouts i false }
  | .capture, .capture => c
  | .off, .off => c

/-- The classifier's part of the switch instant (R119). -/
def classifierSwitch (old : Bank) (s : State) : State :=
  let flags := (List.finRange 32).foldl
    (fun c (i : LineNo) => c.switchModes i old.lines[i].mode s.rules.active.lines[i].mode) s.classifier
  { s with classifier := flags }

/-- Steps 1 to 4 of the switch instant, with the details of its outcome (R130). -/
def installRules (s : State) : State × SwitchDetails :=
  let closed := closeAllIncidents s
  let old := s.rules.generation
  let new := nextSkippingZero old
  let r := append { body := .rulesetSwitch old new closed.2 } closed.1
  (classifierSwitch s.rules.active (frontEndSwitch s.rules.active (exchangeBanks r.1)), ⟨old, new, closed.2, r.2⟩)

/-- The switch instant, whole (R130, R131). -/
def takeSwitchInstant (s : State) : State :=
  let r := installRules s
  admitHeld (offerSwitchDone (endSwitch (.switched r.2) r.1))

/-- SWITCH_INSTANT: DRAINING, the FIFO empty and the classifier holding no entry (R129). -/
def execSwitchInstant (s : State) : Result :=
  .next (if s.draining && s.fifo.isEmpty && s.classifier.inHand.isNone then takeSwitchInstant s else s)

/-! ### Abort and status (R133, R135) -/

/-- ABORT_SWITCH, from the claimant (R133, Table 7-5). -/
def abortSwitchBlock (p : Port) (_ : List Byte) (s : State) : Answer :=
  withClaim p s (match s.switch.phase with
    | .validating _ _ => (offerSwitchDone (endSwitch .aborted s), .ok, .none)
    | .draining => refuse .tooLate s
    | .idle => refuse .notInProgress s)

def execAbortSwitch (p : Port) (s : State) : Result :=
  .next (request p .abortSwitch (abortSwitchBlock p) s)

/-- GET_SWITCH_STATUS (R135). -/
def switchStatusBlock (_ : List Byte) (s : State) : Answer :=
  (s, .ok, .switchStatus ⟨s.switch.phase.name, s.switch.requester, s.switch.outcome, s.rules.generation,
    s.fifo.length, s.heldSet⟩)

def execGetSwitchStatus (p : Port) (s : State) : Result :=
  .next (request p .getSwitchStatus switchStatusBlock s)

end Sys2Proof.Machine
end

