-- ==== Sys2Proof/Machine/Dispatch.lean ====
section
/-!
DEFINITION. One arm for each command: its meaning.
-/
namespace Sys2Proof.Machine

def exec (i : Instr) (s : State) : Host.Outcome State Fault Refusal :=
  match i with
  | .powerOnReset straps => Sys2Proof.Machine.execPowerOnReset straps s
  | .pinReset straps => Sys2Proof.Machine.execPinReset straps s
  | .restartTimerExpiry straps => Sys2Proof.Machine.execRestartTimerExpiry straps s
  | .receiveByte port byte stopLow => Sys2Proof.Machine.execReceiveByte port byte stopLow s
  | .selectionEnd bits => Sys2Proof.Machine.execSelectionEnd bits s
  | .gapTimerExpiry port => Sys2Proof.Machine.execGapTimerExpiry port s
  | .transmitFrameBegin port => Sys2Proof.Machine.execTransmitFrameBegin port s
  | .transmitFrameComplete port straps => Sys2Proof.Machine.execTransmitFrameComplete port straps s
  | .unknownKindRequest port => Sys2Proof.Machine.execUnknownKindRequest port s
  | .identify port => Sys2Proof.Machine.execIdentify port s
  | .openSession port => Sys2Proof.Machine.execOpenSession port s
  | .closeSession port => Sys2Proof.Machine.execCloseSession port s
  | .ping port => Sys2Proof.Machine.execPing port s
  | .claim port => Sys2Proof.Machine.execClaim port s
  | .releaseClaim port => Sys2Proof.Machine.execReleaseClaim port s
  | .restart port => Sys2Proof.Machine.execRestart port s
  | .sessionTimerExpiry port => Sys2Proof.Machine.execSessionTimerExpiry port s
  | .readRecords port => Sys2Proof.Machine.execReadRecords port s
  | .getJournalStatus port => Sys2Proof.Machine.execGetJournalStatus port s
  | .clearJournal port => Sys2Proof.Machine.execClearJournal port s
  | .setJournalMode port => Sys2Proof.Machine.execSetJournalMode port s
  | .subscribe port => Sys2Proof.Machine.execSubscribe port s
  | .resume port => Sys2Proof.Machine.execResume port s
  | .unsubscribe port => Sys2Proof.Machine.execUnsubscribe port s
  | .ack port => Sys2Proof.Machine.execAck port s
  | .dropReader port => Sys2Proof.Machine.execDropReader port s
  | .queueRecordsFrame port => Sys2Proof.Machine.execQueueRecordsFrame port s
  | .queueGapFrame port => Sys2Proof.Machine.execQueueGapFrame port s
  | .retransmitTimerExpiry port => Sys2Proof.Machine.execRetransmitTimerExpiry port s
  | .listIncidents port => Sys2Proof.Machine.execListIncidents port s
  | .closeIncident port => Sys2Proof.Machine.execCloseIncident port s
  | .quietTimerExpiry slot => Sys2Proof.Machine.execQuietTimerExpiry slot s
  | .durationTimerExpiry slot => Sys2Proof.Machine.execDurationTimerExpiry slot s
  | .sampleInstant pins => Sys2Proof.Machine.execSampleInstant pins s
  | .chatterWindowExpiry line => Sys2Proof.Machine.execChatterWindowExpiry line s
  | .releaseTimerExpiry line => Sys2Proof.Machine.execReleaseTimerExpiry line s
  | .heldEntryAdmission => Sys2Proof.Machine.execHeldEntryAdmission s
  | .getLines port => Sys2Proof.Machine.execGetLines port s
  | .takeSnapshot port => Sys2Proof.Machine.execTakeSnapshot port s
  | .classifierTakeEntry => Sys2Proof.Machine.execClassifierTakeEntry s
  | .deferredSnapshotBuild => Sys2Proof.Machine.execDeferredSnapshotBuild s
  | .syncEdge edge => Sys2Proof.Machine.execSyncEdge edge s
  | .missingPulseTimerExpiry => Sys2Proof.Machine.execMissingPulseTimerExpiry s
  | .holdoverTimerExpiry => Sys2Proof.Machine.execHoldoverTimerExpiry s
  | .getTime port => Sys2Proof.Machine.execGetTime port s
  | .setTime port => Sys2Proof.Machine.execSetTime port s
  | .setTimeOptions port => Sys2Proof.Machine.execSetTimeOptions port s
  | .readRule port => Sys2Proof.Machine.execReadRule port s
  | .writeLineRule port => Sys2Proof.Machine.execWriteLineRule port s
  | .writeGroupRule port => Sys2Proof.Machine.execWriteGroupRule port s
  | .writeGlobalRule port => Sys2Proof.Machine.execWriteGlobalRule port s
  | .copyActiveToStaged port => Sys2Proof.Machine.execCopyActiveToStaged port s
  | .switchRules port => Sys2Proof.Machine.execSwitchRules port s
  | .validationCompletion syncRead => Sys2Proof.Machine.execValidationCompletion syncRead s
  | .switchInstant => Sys2Proof.Machine.execSwitchInstant s
  | .abortSwitch port => Sys2Proof.Machine.execAbortSwitch port s
  | .getSwitchStatus port => Sys2Proof.Machine.execGetSwitchStatus port s
  | .clearAlert port => Sys2Proof.Machine.execClearAlert port s
  | .setSessionOptions port => Sys2Proof.Machine.execSetSessionOptions port s
  | .getExceptions port => Sys2Proof.Machine.execGetExceptions port s
  | .clearException port => Sys2Proof.Machine.execClearException port s

end Sys2Proof.Machine
end

