-- ==== Sys2Proof/Machine/Step.lean ====
section
/-!
DEFINITION. One step: the command at the front of the queue, or, with none waiting, one microsecond (log 3).
-/
namespace Sys2Proof.Machine

/-- With no command waiting, one microsecond passes: uptime and time of day advance (R88, R89, log 3). -/
def idle (s : State) : State :=
  { s with clock := s.clock.tick }

/-- The command at the front of the queue is taken and carried out with the rest of the queue waiting. -/
def step (s : State) : Host.Outcome State Fault Refusal :=
  match s.pending with
  | [] => .next (idle s)
  | c :: rest => exec c { s with pending := rest }

/-- `s` with the command that a word spells put at the front of the queue; no row of the table has bits, so no word
spells a command (log 27). -/
def State.withFetchWord (s : State) (nbits w : Nat) : State :=
  match decodeTableWord nbits w with
  | some c => { s with pending := c :: s.pending }
  | none => s

end Sys2Proof.Machine
end

