-- ==== Sys2Proof/Safety.lean ====
section
/-!
DEFINITION. The terms in which claims are stated: when a request is ready to be carried out and what its reply leaves,
which commands reset the part, and the invariants that every step keeps.
-/
namespace Sys2Proof.Machine

/-! ### Requests (R157) -/

/-- The request that a request row takes, by its port and kind (Table 10-4). -/
def requestOf : Instr → Option (Port × RequestKind)
  | .identify p => some (p, .identify)
  | .openSession p => some (p, .openSession)
  | .closeSession p => some (p, .closeSession)
  | .ping p => some (p, .ping)
  | .claim p => some (p, .claim)
  | .releaseClaim p => some (p, .releaseClaim)
  | .restart p => some (p, .restart)
  | .readRecords p => some (p, .readRecords)
  | .getJournalStatus p => some (p, .getJournalStatus)
  | .clearJournal p => some (p, .clearJournal)
  | .setJournalMode p => some (p, .setJournalMode)
  | .subscribe p => some (p, .subscribe)
  | .resume p => some (p, .resume)
  | .unsubscribe p => some (p, .unsubscribe)
  | .ack p => some (p, .ack)
  | .dropReader p => some (p, .dropReader)
  | .listIncidents p => some (p, .listIncidents)
  | .closeIncident p => some (p, .closeIncident)
  | .getLines p => some (p, .getLines)
  | .takeSnapshot p => some (p, .takeSnapshot)
  | .getTime p => some (p, .getTime)
  | .setTime p => some (p, .setTime)
  | .setTimeOptions p => some (p, .setTimeOptions)
  | .readRule p => some (p, .readRule)
  | .writeLineRule p => some (p, .writeLineRule)
  | .writeGroupRule p => some (p, .writeGroupRule)
  | .writeGlobalRule p => some (p, .writeGlobalRule)
  | .copyActiveToStaged p => some (p, .copyActiveToStaged)
  | .switchRules p => some (p, .switchRules)
  | .abortSwitch p => some (p, .abortSwitch)
  | .getSwitchStatus p => some (p, .getSwitchStatus)
  | .clearAlert p => some (p, .clearAlert)
  | .setSessionOptions p => some (p, .setSessionOptions)
  | .getExceptions p => some (p, .getExceptions)
  | .clearException p => some (p, .clearException)
  | .powerOnReset _ | .pinReset _ | .restartTimerExpiry _ | .receiveByte _ _ _ | .selectionEnd _ | .gapTimerExpiry _
  | .transmitFrameBegin _ | .transmitFrameComplete _ _ | .unknownKindRequest _ | .sessionTimerExpiry _
  | .queueRecordsFrame _ | .queueGapFrame _ | .retransmitTimerExpiry _ | .quietTimerExpiry _
  | .durationTimerExpiry _ | .sampleInstant _ | .chatterWindowExpiry _ | .releaseTimerExpiry _
  | .heldEntryAdmission | .classifierTakeEntry | .deferredSnapshotBuild | .syncEdge _ | .missingPulseTimerExpiry
  | .holdoverTimerExpiry | .validationCompletion _ | .switchInstant => none

/-- The requests that need the configuration claim (Table 9-3). -/
def RequestKind.needsClaim : RequestKind → Bool
  | .clearJournal | .setJournalMode | .dropReader | .closeIncident | .setTime | .setTimeOptions | .writeLineRule
  | .writeGroupRule | .writeGlobalRule | .copyActiveToStaged | .switchRules | .abortSwitch | .restart => true
  | _ => false

/-- Port `p`'s session layer takes request `q` of kind `k` next, and cases 1 to 4 of R157 do not apply to it: it is no
repeat, a session is open or not needed, and its length is the one of Table 10-4. -/
structure Ready (s : State) (p : Port) (k : RequestKind) (q : Request) : Prop where
  takable : s.takable p = some q
  kind : q.kind = k.code
  fresh : s.storedReply p q = none
  session : k.sessionless = true ∨ (s.ports.get p).session.isSome = true
  length : q.payload.length = k.length

/-- State `t` after request `q` of port `p` has been answered: the reply waits and is stored (R157, case 5). -/
def State.replied (t : State) (p : Port) (q : Request) (status : Status) (body : ReplyBody) : State :=
  t.answer p ⟨q.kind, q.tag, status, body⟩

/-! ### Whole-machine terms -/

/-- The commands that can reset the part (00 Table 0-5). -/
def Instr.mayReset : Instr → Bool
  | .powerOnReset _ | .pinReset _ | .restartTimerExpiry _ | .transmitFrameComplete _ _ => true
  | _ => false

/-- Commands carried out one after another. -/
def runAll : List Instr → State → Result
  | [], s => .next s
  | c :: cs, s =>
    match exec c s with
    | .next t => runAll cs t
    | .fault r => .fault r
    | .refused r => .refused r

/-! ### Resets -/

/-- Every block but the time base at its reset values after a reset of the given cause: the journal (R25), the readers
(R27), the incident table (R64), the front end (R87), the rule store (R120), the classifier (R121), the switch
controller (R137), the alert unit (R143), the exception table (R151), the ports, the claim and the restart timer
(R168). -/
structure ResetState (cause : ResetCause) (t : State) : Prop where
  journal : t.journal = ⟨[⟨1, ⟨t.clock.timeOfDay, t.clock.quality⟩, 0, ⟨false, false, false, false, false⟩,
    .restarted cause (decide (cause = .requestKeepTime))⟩], 2, .halt⟩
  readers : t.readers.a = none ∧ t.readers.b = none
  incidents : (∀ i : SlotNo, t.incidents.slots[i] = none) ∧ t.incidents.nextId = 1
  lines : ∀ i : LineNo, t.lines[i].phase = .off ∧ t.lines[i].settled = .low ∧ t.lines[i].chatterCount = 0 ∧
    t.lines[i].window = none ∧ t.lines[i].release = none ∧ t.lines[i].held = none
  sampling : t.fifo = [] ∧ t.nextSample = 100
  lineRules : ∀ i : LineNo, t.rules.active.lines[i] = LineRule.default ∧ t.rules.staged.lines[i] = LineRule.default
  groupRules : ∀ g : GroupNo, t.rules.active.groups[g] = GroupRule.default ∧
    t.rules.staged.groups[g] = GroupRule.default
  period : t.rules.active.period = .us100 ∧ t.rules.staged.period = .us100 ∧ t.rules.generation = 0
  classifier : t.classifier = ⟨0, 0, 0, none⟩
  switch : t.switch = ⟨.idle, none, .none⟩
  alert : t.alert.pending = false ∧ t.alert.latest = none ∧ t.alert.nAlertLow = false
  exceptions : (∀ i : SlotNo, t.exceptions.slots[i] = none) ∧ t.exceptions.overflow = false
  ports : ∀ p, t.ports.get p = ⟨.hunting, none, [], false, none, [], none, none, 1⟩
  shared : t.claim = none ∧ t.restart = none ∧ t.resetCause = cause ∧ t.nAttnLow = false

/-- The time base after POWER_ON, PIN or REQUEST_FULL (R103). -/
def TimeReset (c : TimeBase) : Prop :=
  c = ⟨0, ⟨0, 0⟩, .unset, 0, 0, none, none, none, none, ⟨false, .rising, 200, 600, 50⟩⟩

/-- The time base after REQUEST_KEEP_TIME, from the one before it (R104, Table 5-4). -/
def TimeKept (before after : TimeBase) : Prop :=
  after.uptime = 0 ∧ after.goodCount = 0 ∧ after.outlierCount = 0 ∧ after.lastPulse = none ∧
    after.lastCorrection = none ∧ after.missingPulse = none ∧ after.options = before.options ∧
    match before.quality with
    | .unset => after.quality = .unset ∧ after.timeOfDay = ⟨0, 0⟩ ∧ after.holdover = none
    | .free => after.quality = .free ∧ after.timeOfDay = before.timeOfDay ∧ after.holdover = none
    | .locked | .holdover => after.quality = .holdover ∧ after.timeOfDay = before.timeOfDay ∧
        after.holdover = some ⟨0, BitVec.ofNat 48 (before.options.holdoverLimitS * 1000000)⟩

/-! ### Invariants -/

/-- The held records carry consecutive sequence numbers, the newest the next one minus one (R1). -/
def runFrom (next : Seq) : List Record → Prop
  | [] => True
  | r :: rs => r.seq = next - BitVec.ofNat 32 (rs.length + 1) ∧ runFrom next rs

/-- The journal: at most 2,048 records, consecutive (R1); in HALT mode full only with the marker open, and an open
marker only as the newest of 2,048 records in HALT mode (R15, R16). -/
structure Journal.Ok (j : Journal) : Prop where
  capacity : j.held.length ≤ Config.journalCapacity
  run : runFrom j.next j.held
  marker : ∀ r ∈ j.held.dropLast, r.isOpenMarker = false
  open_ : j.markerOpen = true ↔ j.mode = .halt ∧ j.held.length = Config.journalCapacity

/-- No two occupied exception slots share both kind and subject, and counts lie between 1 and 65,535 (R145). -/
def ExceptionTable.Ok (t : ExceptionTable) : Prop :=
  ∀ (i j : SlotNo) (x y : ExceptionSlot), t.slots[i] = some x → t.slots[j] = some y →
    (1 ≤ x.count ∧ x.count ≤ 65535) ∧ (x.kind = y.kind → x.subject = y.subject → i = j)

/-- With notices on a session's notice-pending flag is clear; the flag is set, and a NOTICE frame waits, only while the
exception table is not empty (R147, R148). -/
structure State.NoticesOk (s : State) : Prop where
  on : ∀ (p : Port) (ses : Session), (s.ports.get p).session = some ses → ses.notices = true → ses.noticePending = false
  flag : ∀ (p : Port) (ses : Session), (s.ports.get p).session = some ses → ses.noticePending = true →
    s.exceptions.isEmpty = false
  waiting : ∀ (p : Port), ∀ f ∈ (s.ports.get p).waiting, f.isNotice = true → s.exceptions.isEmpty = false

/-- A reply of the session layer (R157). -/
def Frame.isSessionReply : Frame → Bool
  | .reply fromLink _ => !fromLink
  | _ => false

/-- The queues keep their capacities: event FIFO 64, request queues 4 (R75, R156). On each port at most four ALERT
frames, one NOTICE, one RECORDS, one GAP and one QUEUE_FULL reply wait, and one reply of the session layer waits exactly
while a request of the queue is in hand (R30, R42, R141, R147, R156, R157, R159). -/
structure State.QueuesOk (s : State) : Prop where
  fifo : s.fifo.length ≤ Config.fifoCapacity
  requests : ∀ p, (s.ports.get p).requests.length ≤ Config.requestCapacity
  inHand : ∀ p, (s.ports.get p).inHand = true → (s.ports.get p).requests ≠ []
  replies : ∀ p, (s.ports.get p).waiting.countP Frame.isSessionReply = if (s.ports.get p).inHand then 1 else 0
  linkReplies : ∀ p, (s.ports.get p).waiting.countP Frame.isLinkReply ≤ 1
  alerts : ∀ p, (s.ports.get p).waiting.countP Frame.isAlert ≤ Config.alertCapacity
  notices : ∀ p, (s.ports.get p).waiting.countP Frame.isNotice ≤ 1
  gaps : ∀ p, (s.ports.get p).waiting.countP Frame.isGap ≤ 1
  records : ∀ p, (s.ports.get p).waiting.countP Frame.isRecords ≤ 1

/-- The claim is free, or held by a session that is open (R165). -/
def State.ClaimOk (s : State) : Prop :=
  ∀ h, s.claim = some h → ∃ ses, (s.ports.get h.port).session = some ses ∧ ses.number = h.session

/-- Every field of a line entry is in range (Table 6-2). -/
def LineRule.inRange (r : LineRule) : Prop :=
  (1 ≤ r.debounce ∧ r.debounce ≤ 255) ∧ (r.chatterLimit = 0 ∨ 2 ≤ r.chatterLimit ∧ r.chatterLimit ≤ 63) ∧
    (10 ≤ r.chatterWindowMs ∧ r.chatterWindowMs ≤ 10000) ∧ (10 ≤ r.chatterReleaseMs ∧ r.chatterReleaseMs ≤ 60000)

/-- Every field of a group entry is in range (Table 3-5). -/
def GroupRule.inRange (r : GroupRule) : Prop :=
  (10 ≤ r.settleMs ∧ r.settleMs ≤ 60000) ∧
    (r.maxDurationMs = 0 ∨ 100 ≤ r.maxDurationMs ∧ r.maxDurationMs ≤ 600000) ∧
    (1 ≤ r.memberLimit ∧ r.memberLimit ≤ 255)

/-- Every time option is in range (Table 5-3). -/
def TimeOptions.inRange (o : TimeOptions) : Prop :=
  (10 ≤ o.windowUs ∧ o.windowUs ≤ 2000) ∧ (10 ≤ o.holdoverLimitS ∧ o.holdoverLimitS ≤ 3600) ∧
    o.stepThresholdUs ≤ 10000

/-- Every entry of a bank is in range (R105). -/
def Bank.inRange (b : Bank) : Prop :=
  (∀ i : LineNo, b.lines[i].inRange) ∧ ∀ g : GroupNo, b.groups[g].inRange

/-- An entry in the classifier's hand: it has records left to build (R113); a LINE_CHANGE left stands alone, its call not
yet taken (R117), and while an INCIDENT_CLOSE is left the call's action is in progress (R49). -/
structure EntryInHand.Ok (h : EntryInHand) : Prop where
  left : h.left ≠ []
  change : .lineChange ∈ h.left → h.left = [.lineChange] ∧ h.called = false
  close : ∀ c, .incidentClose c ∈ h.left → h.called = true

/-- The entry in the classifier's hand is in order and classified under the ACTIVE line entry of its line (R113). -/
def State.InHandOk (s : State) : Prop :=
  ∀ h, s.classifier.inHand = some (.entry h) → h.Ok ∧ h.rule = s.rules.active.lines[h.edge.line]

/-- Both banks are in range; open incidents have one group each and a member count from 1 to below the member limit of
their group in the ACTIVE bank, at which an incident closes (R105, R46, R53). -/
structure State.RulesOk (s : State) : Prop where
  active : s.rules.active.inRange
  staged : s.rules.staged.inRange
  members : ∀ (i : SlotNo) (x : Incident), s.incidents.slots[i] = some x →
    1 ≤ x.members ∧ x.members < s.rules.active.groups[x.group].memberLimit
  groups : ∀ (i j : SlotNo) (x y : Incident), s.incidents.slots[i] = some x → s.incidents.slots[j] = some y →
    x.group = y.group → i = j

/-- LOCKED and HOLDOVER only with the SYNC function on (R90), the missing-pulse timer runs while LOCKED (R98), the
holdover timer while HOLDOVER (R99), and the counts keep below the values that change the quality (R96, R97). -/
structure TimeBase.Ok (c : TimeBase) : Prop where
  sync : c.quality = .locked ∨ c.quality = .holdover → c.options.syncEnable = true
  missing : c.missingPulse.isSome = true ↔ c.quality = .locked
  holdover : c.holdover.isSome = true ↔ c.quality = .holdover
  good : c.goodCount < Config.goodToLock ∧ (c.goodCount ≠ 0 → c.quality = .free)
  outlier : c.outlierCount < Config.outliersToFree ∧ (c.outlierCount ≠ 0 → c.quality = .locked)
  options : c.options.inRange

/-- A reader against the journal. Its window lies in 1 to 16, its timeout in 20 to 5,000 ms and its retry count below
8, or at 8 exactly when STALLED; its retransmit timer runs exactly while it is ACTIVE with records in flight (R28, R31,
R33), and only a retaining reader is DORMANT (R36). Its points: the records in flight are at most the window, the ack
point lies below the send point, the send point names a held record or the next number, and the ack point lies no lower
than just below the oldest held record, so that both lie within the band of R2 (R26). -/
structure Subscription.Ok (j : Journal) (r : Subscription) : Prop where
  window : 1 ≤ r.window ∧ r.window ≤ Config.maxWindow
  timeout : 20 ≤ r.timeoutMs ∧ r.timeoutMs ≤ 5000
  timer : r.timer.isSome = true ↔ r.state = .active ∧ r.inFlight ≠ 0
  retry : r.retry ≤ Config.retryLimit ∧ (r.retry = Config.retryLimit ↔ r.state = .stalled)
  dormant : r.state = .dormant → r.retain = true
  flight : r.inFlight ≤ r.window
  below : distance j.next r.send < distance j.next r.ack
  send : distance j.next r.send ≤ j.held.length
  ack : distance j.next r.ack ≤ j.held.length + 1
  band : distance j.next r.ack ≤ Config.seqBand

/-- Every reader that is not UNSUBSCRIBED keeps its bounds. A RECORDS or GAP frame waits only for an ACTIVE or STALLED
reader; a waiting RECORDS frame ends just below its reader's send point, and carries none but records in flight unless
an acknowledgement has come since it was queued (R30, R32, R36, R39, R42). -/
structure State.ReadersOk (s : State) : Prop where
  bounds : ∀ (p : Port) (r : Subscription), s.readers.get p = some r → r.Ok s.journal
  awake : ∀ (p : Port), ∀ f ∈ (s.ports.get p).waiting, f.isRecords = true ∨ f.isGap = true →
    ∃ r, s.readers.get p = some r ∧ r.state ≠ .dormant
  waiting : ∀ (p : Port) (r : Subscription) (rs : List Record), s.readers.get p = some r →
    .records rs ∈ (s.ports.get p).waiting → rs.length ≤ Config.recordsPerFrame ∧
      (∃ x, rs.head? = some x ∧ r.send = x.seq + BitVec.ofNat 32 rs.length) ∧
      (r.retry ≠ 0 → rs.length ≤ r.inFlight)

/-- A line under its ACTIVE mode: a line whose mode is OFF is OFF, an OFF line holds, counts and times nothing (R85), an
occupied held slot stands only in IDLE or LOCKED_OUT (R67, R78), and the release timer runs exactly in LOCKED_OUT with
the held slot empty (R71, R72). -/
structure Line.Ok (m : Mode) (l : Line) : Prop where
  mode : m = .off → l.phase = .off
  off : l.phase = .off → l.held = none ∧ l.chatterCount = 0 ∧ l.window = none
  held : l.held.isSome = true → l.phase = .idle ∨ ∃ level, l.phase = .lockedOut level
  release : l.release.isSome = true ↔ (∃ level, l.phase = .lockedOut level) ∧ l.held = none

/-- The lines, and line 31 against the SYNC function (R86, R92): while SYNC is on, line 31 is OFF and OFF in the ACTIVE
bank, and a switch that would bring it into CAPTURE has not passed validation and can only be judged with SYNC on. -/
structure State.LinesOk (s : State) : Prop where
  lines : ∀ i : LineNo, s.lines[i].Ok s.rules.active.lines[i].mode
  line31 : s.clock.options.syncEnable = true → s.rules.active.lines[31].mode = .off ∧ s.lines[31].phase = .off
  switch : s.clock.options.syncEnable = true → s.rules.staged.lines[31].mode = .capture →
    s.switch.phase ≠ .draining ∧ ∀ sawOn sawOff, s.switch.phase = .validating sawOn sawOff → sawOff = false

/-- A held entry waits only while the FIFO is full or a switch is DRAINING (R78). -/
def State.HeldOk (s : State) : Prop :=
  s.anyHeld = true → s.fifoFull = true ∨ s.draining = true

end Sys2Proof.Machine
end

