-- ==== Sys2Proof/Certificates/Slice0/Obligations.lean ====
section
/-!
DEFINITION. The statements for the provers. Each docstring names the rules of spec/ that the statement formalises; the
operations that a statement names (`raise`, `append`, `evaluateRelease`, `endSession`, ...) have statements of their own.
-/
open Sys2Proof Sys2Proof.Machine

/-! ### The step -/

/-- A step takes the command at the front of the queue and carries it out with the rest waiting. -/
def Obligations.StepRunsCommandInFront : Prop :=
  ∀ (c : Instr) (rest : List Instr) (s : State), s.pending = c :: rest → step s = exec c { s with pending := rest }

/-- With no command waiting a step is one microsecond of uptime and time of day, and nothing else (the model's choice
of what an empty queue does, log 3; the advance itself is that of R88 and R89). -/
def Obligations.EmptyQueueStepIsOneMicrosecond : Prop :=
  ∀ s : State, s.pending = [] → ∃ t, step s = .next t ∧
    t.clock.uptime = s.clock.uptime + 1 ∧
    (s.clock.timeOfDay.micros.val < 999999 →
      t.clock.timeOfDay.seconds = s.clock.timeOfDay.seconds ∧
        t.clock.timeOfDay.micros.val = s.clock.timeOfDay.micros.val + 1) ∧
    (s.clock.timeOfDay.micros.val = 999999 →
      t.clock.timeOfDay.seconds = s.clock.timeOfDay.seconds + 1 ∧ t.clock.timeOfDay.micros.val = 0) ∧
    t = { s with clock := { s.clock with uptime := t.clock.uptime, timeOfDay := t.clock.timeOfDay } }

/-- Every command is taken whole and answers a next state, and none touches the queue of waiting commands. That a reset
leaves that queue as it is too is the model's reading (log 21). -/
def Obligations.EveryCommandCompletes : Prop :=
  ∀ (c : Instr) (s : State), ∃ t, exec c s = .next t ∧ t.pending = s.pending

/-! ### Resets -/

/-- The four ways a reset comes, and what each leaves: POWER_ON_RESET, PIN_RESET, the expiry of the restart timer, and
the completion of the RESTART reply (R25, R27, R64, R87, R103, R104, R120, R121, R137, R143, R151, R166, R168). -/
def Obligations.ResetsLeaveResetValues : Prop :=
  ∀ (straps : Straps) (s : State),
    (∃ t, exec (.powerOnReset straps) s = .next t ∧ ResetState .powerOn t ∧ TimeReset t.clock ∧
      t.rate = rateOf straps) ∧
    (∃ t, exec (.pinReset straps) s = .next t ∧ ResetState .pin t ∧ TimeReset t.clock ∧ t.rate = rateOf straps) ∧
    (∀ r, s.restart = some r →
      (reached s.clock.uptime r.deadline = true ∧ r.option = .full → ∃ t,
        exec (.restartTimerExpiry straps) s = .next t ∧ ResetState .requestFull t ∧ TimeReset t.clock ∧
          t.rate = rateOf straps) ∧
      (reached s.clock.uptime r.deadline = true ∧ r.option = .keepTime → ∃ t,
        exec (.restartTimerExpiry straps) s = .next t ∧ ResetState .requestKeepTime t ∧ TimeKept s.clock t.clock ∧
          t.rate = rateOf straps) ∧
      (reached s.clock.uptime r.deadline = false → exec (.restartTimerExpiry straps) s = .next s) ∧
      ∀ tag sent, (s.ports.get r.port).sending = some ⟨.reply false ⟨0x07, tag, .ok, .none⟩, sent⟩ →
        (r.port = .b → 8 ≤ sent) → ∃ t,
          exec (.transmitFrameComplete r.port straps) s = .next t ∧ ResetState r.option.cause t ∧
            t.rate = rateOf straps ∧
            (r.option = .full → TimeReset t.clock) ∧ (r.option = .keepTime → TimeKept s.clock t.clock))

/-- The state after reset meets every invariant that the statements below say each step keeps. -/
def Obligations.ResetStateMeetsInvariants : Prop :=
  State.reset.journal.Ok ∧ State.reset.exceptions.Ok ∧ State.reset.alert.nAlertLow = State.reset.alert.pending ∧
    State.reset.NoticesOk ∧ State.reset.QueuesOk ∧ State.reset.ClaimOk ∧ State.reset.RulesOk ∧ State.reset.clock.Ok ∧
    State.reset.ReadersOk ∧ State.reset.LinesOk ∧ State.reset.HeldOk ∧ State.reset.InHandOk

/-! ### Link layers (R152 to R156, R159) -/

/-- The frame receiver, byte by byte on Port A and at a gap expiry on either port: what HUNTING ignores, what starts a
collection, what a collection keeps, and what discards it: a LEN above 250, a wrong CRC, a framing error or a gap. A
discard raises LINK_ERROR and scans the bytes kept after the SYNC byte again. A run of bytes scanned from HUNTING
(`feed`): bytes before a 0xC3 are ignored; the bytes after it stay a collection while they are too few, are discarded
and scanned again from the next byte on a LEN above 250 or a wrong CRC, and otherwise are an accepted frame, after which
the rest is scanned (R152, R154). That the SYNC byte itself starts the gap timer is the model's reading (log 10). -/
def Obligations.ReceiverCollectsAndDiscards : Prop :=
  (∀ (s : State) (b : Byte),
     (s.ports.a.receiver = .hunting → s.ports.a.gapTimer = none → b ≠ 0xC3 →
       exec (.receiveByte .a b false) s = .next s) ∧
     (s.ports.a.receiver = .hunting →
       exec (.receiveByte .a 0xC3 false) s = .next (s.setPort .a { s.ports.a with
         receiver := .collecting [], gapTimer := some (s.clock.uptime + 5000) })) ∧
     (s.ports.a.receiver = .hunting → exec (.receiveByte .a b true) s = .next s) ∧
     (∀ len kept, s.ports.a.receiver = .collecting (len :: kept) → len.toNat ≤ 250 →
       kept.length + 2 < len.toNat + 5 →
       exec (.receiveByte .a b false) s = .next (s.setPort .a { s.ports.a with
         receiver := .collecting (len :: kept ++ [b]), gapTimer := some (s.clock.uptime + 5000) })) ∧
     (s.ports.a.receiver = .collecting [] → 250 < b.toNat →
       exec (.receiveByte .a b false) s = .next (feed .a [b] (raise .linkError (.port .a) s))) ∧
     (∀ len kind tag payload hi, s.ports.a.receiver = .collecting (len :: kind :: tag :: (payload ++ [hi])) →
       len.toNat ≤ 250 → payload.length = len.toNat →
       (crc16 (len :: kind :: tag :: payload) ≠ hi ++ b → exec (.receiveByte .a b false) s = .next
         (feed .a (len :: kind :: tag :: (payload ++ [hi, b])) (raise .linkError (.port .a) s))) ∧
       (crc16 (len :: kind :: tag :: payload) = hi ++ b → exec (.receiveByte .a b false) s = .next
         (feed .a [] (acceptFrame .a ⟨kind, tag, payload⟩ s)))) ∧
     (∀ kept, s.ports.a.receiver = .collecting kept →
       exec (.receiveByte .a b true) s = .next (feed .a kept (raise .linkError (.port .a) s))) ∧
     ∀ p kept d, (s.ports.get p).receiver = .collecting kept → (s.ports.get p).gapTimer = some d →
       (reached s.clock.uptime d = false → exec (.gapTimerExpiry p) s = .next s) ∧
       (reached s.clock.uptime d = true →
         exec (.gapTimerExpiry p) s = .next (feed p kept (raise .linkError (.port p) s)))) ∧
  (∀ (p : Port) (s : State) (pre rest : List Byte), (∀ x ∈ pre, x ≠ 0xC3) →
     let discarded := feed p rest (raise .linkError (.port p) s);
     feed p pre s = s.setPort p { s.ports.get p with receiver := .hunting, gapTimer := none } ∧
     ((rest = [] ∨ ∃ len kept, rest = len :: kept ∧ len.toNat ≤ 250 ∧ kept.length + 1 < len.toNat + 5) →
       feed p (pre ++ 0xC3 :: rest) s = s.setPort p { s.ports.get p with
         receiver := .collecting rest, gapTimer := some (s.clock.uptime + 5000) }) ∧
     (∀ len kept, rest = len :: kept → 250 < len.toNat → feed p (pre ++ 0xC3 :: rest) s = discarded) ∧
     (∀ len kind tag payload hi lo more, rest = len :: kind :: tag :: (payload ++ hi :: lo :: more) →
       len.toNat ≤ 250 → payload.length = len.toNat →
       (crc16 (len :: kind :: tag :: payload) ≠ hi ++ lo → feed p (pre ++ 0xC3 :: rest) s = discarded) ∧
       (crc16 (len :: kind :: tag :: payload) = hi ++ lo →
         feed p (pre ++ 0xC3 :: rest) s = feed p more (acceptFrame p ⟨kind, tag, payload⟩ s))))

/-- Port B's byte layer: the byte clocked in is matched by the next byte of the frame in transmission; with none, or
with all its bytes clocked out, by the first byte of the frame the transmitter then picks, or, with none waiting, by
the filler 0x00. Only whole bytes count, so the end of a selection changes nothing but the selection (R153, R159). That
a frame whose last byte is out counts as complete without its command, and that the byte makes the pick, are the model's
readings (logs 13 and 14), and that it does so where the selection before cut a filler byte short is its choice (log
33). nATTN is low exactly while a frame waits on Port B or one is in transmission whose last byte
has not been clocked out: a frame queued drives it low, a withdrawal or a byte releases it when it leaves none waiting
and no byte of a frame to clock, and the beginning and the completion of a frame leave it (R153). -/
def Obligations.PortBShiftsOneByteOut : Prop :=
  (∀ (s : State) (b : Byte) (bits : List Bool),
     exec (.selectionEnd bits) s = .next { s with spi := { s.spi with selected := false } } ∧
     ∃ t, exec (.receiveByte .b b false) s = .next t ∧ t.spi.selected = true ∧
       (∀ f sent, s.ports.b.sending = some ⟨f, sent⟩ → ∀ h : sent < f.bytes.length,
         t.spi.sdo = f.bytes[sent] ∧ t.ports.b.sending = some ⟨f, sent + 1⟩ ∧
           (t.nAttnLow = true ↔ t.ports.b.waiting ≠ [] ∨ sent + 1 < f.bytes.length)) ∧
       ((s.ports.b.sending = none ∨
           s.restart = none ∧ ∃ f sent, s.ports.b.sending = some ⟨f, sent⟩ ∧ f.bytes.length ≤ sent) →
         (s.ports.b.waiting = [] → t.spi.sdo = 0x00 ∧ t.ports.b.sending = none ∧
           (t.nAttnLow = true ↔ t.ports.b.waiting ≠ [])) ∧
         (∀ f pre post, s.ports.b.waiting = pre ++ f :: post → (∀ g ∈ pre, f.rank < g.rank) →
           (∀ g ∈ post, f.rank ≤ g.rank) →
           t.spi.sdo = 0xC3 ∧ t.ports.b.sending = some ⟨f, 1⟩ ∧ t.nAttnLow = true))) ∧
  (∀ (s : State) (straps : Straps) (f : Frame) (leaves : Frame → Bool),
     let unsent := ∃ g sent, s.ports.b.sending = some ⟨g, sent⟩ ∧ sent < g.bytes.length;
     (s.nAttnLow = true ↔ s.ports.b.waiting ≠ [] ∨ unsent) ∧
     (s.queueFrame .b f).nAttnLow = true ∧
     ((s.withdraw .b leaves).nAttnLow = true ↔ (∃ g ∈ s.ports.b.waiting, leaves g = false) ∨ unsent) ∧
     (∃ t, exec (.transmitFrameBegin .b) s = .next t ∧ t.nAttnLow = s.nAttnLow) ∧
     (s.restart = none → ∃ t, exec (.transmitFrameComplete .b straps) s = .next t ∧ t.nAttnLow = s.nAttnLow))

/-- A frame in the layout of Table 10-1, clocked or sent in byte by byte to a HUNTING receiver, is accepted with
exactly its KIND, TAG and payload, and joins the request queue when the queue has room and no queued request has its
tag (R154, R155, R156, R169). -/
def Obligations.SentFrameArrivesAsItsRequest : Prop :=
  ∀ (p : Port) (s : State) (kind tag : Byte) (payload : List Byte),
    payload.length ≤ 250 → isPartKind kind = false → (s.ports.get p).receiver = .hunting →
    (s.ports.get p).requests.length < 4 → (tag = 0 ∨ ∀ r ∈ (s.ports.get p).requests, r.tag ≠ tag) →
    (p = .b → s.ports.b.inHand = false) →
    ∃ t, runAll ((wireFrame kind tag payload).map fun b => .receiveByte p b false) s = .next t ∧
      (t.ports.get p).requests = (s.ports.get p).requests ++ [⟨kind, tag, payload⟩] ∧
      (t.ports.get p).receiver = .hunting ∧ (t.ports.get p).gapTimer = none ∧
      t.exceptions = s.exceptions ∧ t.journal = s.journal

/-- An accepted frame, whatever its KIND, sets the deadline of the port's open session anew; a reply kind (0x80) or an
unsolicited kind (0x90 to 0x94) has no other effect, and any other kind arrives as a request (R155, R163). An arriving
request against the queue: discarded for a queued tag, answered QUEUE_FULL (once) when the queue is full, else placed
at the tail (R156). -/
def Obligations.ArrivingRequestJoinsQueue : Prop :=
  (∀ (p : Port) (q : Request) (s : State),
     let touched : State := match (s.ports.get p).session with
       | none => s
       | some ses => s.setPort p { s.ports.get p with session := some { ses with
           deadline := s.clock.uptime + BitVec.ofNat 48 (ses.timeoutMs * 1000) } };
     ((q.kind = 0x80 ∨ 0x90 ≤ q.kind.toNat ∧ q.kind.toNat ≤ 0x94) → acceptFrame p q s = touched) ∧
     (¬(q.kind = 0x80 ∨ 0x90 ≤ q.kind.toNat ∧ q.kind.toNat ≤ 0x94) →
       acceptFrame p q s = requestArrival p q touched)) ∧
  (∀ (p : Port) (q : Request) (s : State),
     ((q.tag ≠ 0 ∧ ∃ r ∈ (s.ports.get p).requests, r.tag = q.tag) → requestArrival p q s = s) ∧
     (¬(q.tag ≠ 0 ∧ ∃ r ∈ (s.ports.get p).requests, r.tag = q.tag) →
       ((s.ports.get p).requests.length < 4 →
         requestArrival p q s = s.setPort p { s.ports.get p with requests := (s.ports.get p).requests ++ [q] }) ∧
       (4 ≤ (s.ports.get p).requests.length →
         ((∃ r, .reply true r ∈ (s.ports.get p).waiting) → requestArrival p q s = s) ∧
         ((∀ r, .reply true r ∉ (s.ports.get p).waiting) →
           requestArrival p q s = s.queueFrame p (.reply true ⟨q.kind, q.tag, .queueFull, .none⟩)))))

/-- The transmitter: an idle one begins the first waiting frame of the best kind (reply, ALERT, NOTICE, SWITCH_DONE,
GAP, RECORDS), and a begun reply of the session layer takes its request off the queue; a completed frame leaves it
idle (R157, R159). That TRANSMIT_FRAME_BEGIN makes the pick on Port B by itself is the model's reading (log 14), and so
is that the completion command itself says, on Port A, that the last byte has left (log 13). -/
def Obligations.TransmitterPicksByKind : Prop :=
  ∀ (p : Port) (s : State) (straps : Straps),
    (∀ f pre post, (s.ports.get p).sending = none → (s.ports.get p).waiting = pre ++ f :: post →
      (∀ g ∈ pre, f.rank < g.rank) → (∀ g ∈ post, f.rank ≤ g.rank) →
      ∃ t, exec (.transmitFrameBegin p) s = .next t ∧
        (t.ports.get p).waiting = pre ++ post ∧ (t.ports.get p).sending = some ⟨f, 0⟩ ∧
        ((∀ r, f ≠ .reply false r) → t = s.setPort p { s.ports.get p with
          waiting := pre ++ post, sending := some ⟨f, 0⟩ }) ∧
        (∀ r, f = .reply false r → (s.ports.get p).inHand = true → t = s.setPort p { s.ports.get p with
          waiting := pre ++ post, sending := some ⟨f, 0⟩, inHand := false,
          requests := (s.ports.get p).requests.tail })) ∧
    (∀ x, (s.ports.get p).sending = some x → (p = .b → x.frame.bytes.length ≤ x.sent) → s.restart = none →
      exec (.transmitFrameComplete p straps) s = .next (s.setPort p { s.ports.get p with sending := none }))

/-! ### The session layer (R157 to R166) -/

/-- IDENTIFY and PING change nothing but their reply, whose bytes are those of Tables 10-4 and 10-6 (R161, R172). -/
def Obligations.IdentifyAndPingReply : Prop :=
  ∀ (p : Port) (s : State) (q : Request),
    (Ready s p .identify q → ∃ r : Reply,
      exec (.identify p) s = .next ((s.putInHand p).answer p r) ∧ r.kind = 0x01 ∧ r.tag = q.tag ∧
        r.bytes = [0x01, 0x00, 0x32, 0x08, 0x01, 32, 0x08, 0x00, 8, 8, 16, 64, s.resetCause.code] ++
          uptimeBytes s.clock.uptime ++ (match (s.ports.get p).session with
            | some ses => [1, ses.number]
            | none => [0, 0])) ∧
    (Ready s p .ping q → ∃ r : Reply,
      exec (.ping p) s = .next ((s.putInHand p).answer p r) ∧ r.kind = 0x04 ∧ r.tag = q.tag ∧
        r.bytes = [0x04, 0x00] ++ uptimeBytes s.clock.uptime)

/-- OPEN: a wrong version, then a timeout out of range, change nothing; otherwise a session open on the port ends
first, and the new one takes the next session number with its options at their values at open (R160). -/
def Obligations.OpenStartsNewSession : Prop :=
  ∀ (p : Port) (s : State) (q : Request) (version hi lo : Byte), Ready s p .openSession q →
    q.payload = [version, hi, lo] →
    let ms := hi.toNat * 256 + lo.toNat;
    let e := endSession p (s.putInHand p);
    let n := (s.ports.get p).nextSession;
    (version ≠ 1 → exec (.openSession p) s = .next ((s.putInHand p).replied p q .badVersion .none)) ∧
    (version = 1 → (ms < 100 ∨ 60000 < ms) →
      exec (.openSession p) s = .next ((s.putInHand p).replied p q .badValue .none)) ∧
    (version = 1 → 100 ≤ ms → ms ≤ 60000 →
      exec (.openSession p) s = .next ((e.setPort p { e.ports.get p with
          session := some ⟨n, ms, s.clock.uptime + BitVec.ofNat 48 (ms * 1000), false, 0, false, 0,
            !s.exceptions.isEmpty⟩,
          nextSession := if n = 255 then 1 else n + 1 }).replied p q .ok
        (.opened n (readerState (e.readers.get p)) (e.claimState p))))

/-- The end of a session: its frames leave the transmit queue and replies stay, the port is CLOSED, the reader becomes
DORMANT or UNSUBSCRIBED or, DORMANT already, stays as it was, the journal evaluates release when the reader stops
retaining and not otherwise, the claim the session held becomes free, and nothing else changes. (No RECORDS or GAP frame
waits for a DORMANT reader: StepKeepsReaders.) CLOSE answers OK with that end, and the session timer's expiry adds an
empty last-reply store and SESSION_LOST (R36, R43, R162, R163, R164). -/
def Obligations.SessionEndReleasesItsHoldings : Prop :=
  ∀ (p : Port) (s : State) (ses : Session), (s.ports.get p).session = some ses →
    (let e := endSession p s;
      e = { s with journal := e.journal, readers := e.readers, ports := e.ports, claim := e.claim } ∧
      e.ports.get p = { s.ports.get p with
        session := none, waiting := (s.ports.get p).waiting.filter (fun f => f.rank == 0) } ∧
      (∀ p', p' ≠ p → e.ports.get p' = s.ports.get p' ∧ e.readers.get p' = s.readers.get p') ∧
      (s.claim = some ⟨p, ses.number⟩ → e.claim = none) ∧ (s.claim ≠ some ⟨p, ses.number⟩ → e.claim = s.claim) ∧
      (s.readers.get p = none → e.readers.get p = none ∧ e.journal = s.journal) ∧
      (∀ r, s.readers.get p = some r → r.state ≠ .dormant → r.retain = false →
        e.readers.get p = none ∧ e.journal = (evaluateRelease (s.setReader p none)).journal) ∧
      (∀ r, s.readers.get p = some r → (r.state = .dormant ∨ r.retain = true) → e.journal = s.journal) ∧
      (∀ r, s.readers.get p = some r → r.state = .dormant → (∀ f ∈ (s.ports.get p).waiting, f.rank < 4) →
        e.readers.get p = some r) ∧
      (∀ r, s.readers.get p = some r → r.state ≠ .dormant → r.retain = true →
        (∀ first last ack, .gap first last ack ∉ (s.ports.get p).waiting) →
        e.readers.get p = some { r with state := .dormant, send := r.ack + 1, retry := 0, timer := none }) ∧
      (∀ r first last ack pre post, s.readers.get p = some r → r.state ≠ .dormant → r.retain = true →
        (s.ports.get p).waiting = pre ++ .gap first last ack :: post →
        (∀ first' last' ack', .gap first' last' ack' ∉ pre) →
        e.readers.get p = some { r with
          state := .dormant, send := r.ack + 1, retry := 0, timer := none,
          gap := some (first, (r.gap.map (·.2)).getD last) })) ∧
    (∀ q, Ready s p .closeSession q →
      exec (.closeSession p) s = .next ((endSession p (s.putInHand p)).replied p q .ok .none)) ∧
    (reached s.clock.uptime ses.deadline = true → exec (.sessionTimerExpiry p) s =
      .next (raise .sessionLost (.port p) ((endSession p s).setPort p
        { (endSession p s).ports.get p with lastReply := none }))) ∧
    (reached s.clock.uptime ses.deadline = false → exec (.sessionTimerExpiry p) s = .next s)

/-- CLAIM and RELEASE by the claim as it stands (R165). Every request that needs the claim is answered NOT_CLAIMANT to
a session without it, and nothing else changes (Table 9-3, R165); a CLOSE_INCIDENT waits for the end of a call's action
first (R49: IncidentClosesWithItsRecord). -/
def Obligations.ClaimHasOneHolder : Prop :=
  (∀ (p : Port) (s : State) (q : Request) (ses : Session), (s.ports.get p).session = some ses →
     (Ready s p .claim q →
       (s.claim = none → exec (.claim p) s =
         .next ({ s.putInHand p with claim := some ⟨p, ses.number⟩ }.replied p q .ok (.claim .held))) ∧
       (s.claim = some ⟨p, ses.number⟩ →
         exec (.claim p) s = .next ((s.putInHand p).replied p q .ok (.claim .held))) ∧
       (∀ h, s.claim = some h → h.port ≠ p →
         exec (.claim p) s = .next ((s.putInHand p).replied p q .heldByOther (.claim .heldByOther)))) ∧
     (Ready s p .releaseClaim q →
       (s.claim = none →
         exec (.releaseClaim p) s = .next ((s.putInHand p).replied p q .notClaimant (.claim .free))) ∧
       (s.claim = some ⟨p, ses.number⟩ → exec (.releaseClaim p) s =
         .next ({ s.putInHand p with claim := none }.replied p q .ok (.claim .free))) ∧
       (∀ h, s.claim = some h → h.port ≠ p →
         exec (.releaseClaim p) s = .next ((s.putInHand p).replied p q .notClaimant (.claim .heldByOther))))) ∧
  (∀ (c : Instr) (p : Port) (k : RequestKind) (s : State) (q : Request), requestOf c = some (p, k) →
     k.needsClaim = true → Ready s p k q → s.holdsClaim p = false → (k = .closeIncident → s.inAction = false) →
     exec c s = .next ((s.putInHand p).replied p q .notClaimant .none))

/-- RESTART from the claimant starts the 50 ms restart timer, any other option is BAD_VALUE, and from then on neither
session layer takes a request, of whatever kind (R166). -/
def Obligations.RestartStopsRequests : Prop :=
  (∀ (p : Port) (s : State) (q : Request) (b : Byte), Ready s p .restart q → s.holdsClaim p = true →
    q.payload = [b] →
    (b = 0 → exec (.restart p) s =
      .next ({ s.putInHand p with restart := some ⟨s.clock.uptime + 50000, .full, p⟩ }.replied p q .ok .none)) ∧
    (b = 1 → exec (.restart p) s =
      .next ({ s.putInHand p with restart := some ⟨s.clock.uptime + 50000, .keepTime, p⟩ }.replied p q .ok .none)) ∧
    (1 < b.toNat → exec (.restart p) s = .next ((s.putInHand p).replied p q .badValue .none))) ∧
  ∀ (c : Instr) (s : State), s.restart.isSome = true →
    ((requestOf c).isSome = true ∨ ∃ p, c = .unknownKindRequest p) → exec c s = .next s

/-- The checks of the session layer before a block is asked: a repeat is answered from the store and not carried out,
an unknown kind, a missing session and a wrong length are answered with their statuses and change nothing else (R157).
-/
def Obligations.RequestChecksComeInOrder : Prop :=
  ∀ (p : Port) (s : State) (q : Request), s.takable p = some q →
    (∀ c k, requestOf c = some (p, k) → q.kind = k.code →
      (∀ r, s.storedReply p q = some r →
        exec c s = .next ((s.putInHand p).queueFrame p (.reply false r))) ∧
      (s.storedReply p q = none → (s.ports.get p).session = none → k ≠ .identify → k ≠ .openSession →
        exec c s = .next ((s.putInHand p).replied p q .noSession .none)) ∧
      (s.storedReply p q = none → ((s.ports.get p).session.isSome = true ∨ k = .identify ∨ k = .openSession) →
        q.payload.length ≠ k.length → exec c s = .next ((s.putInHand p).replied p q .badLength .none))) ∧
    (isRequestKind q.kind = false →
      (∀ r, s.storedReply p q = some r →
        exec (.unknownKindRequest p) s = .next ((s.putInHand p).queueFrame p (.reply false r))) ∧
      (s.storedReply p q = none →
        exec (.unknownKindRequest p) s = .next ((s.putInHand p).replied p q .unknownKind .none)))

/-! ### The journal (R1 to R24, R44) -/

/-- An append that finds room: the record joins the newest end with the next sequence number, its own stamp or the one
read now, and the generation in force, and its number is answered. An alert is handed over with that number; any other
record leaves the alert unit as it is, but for the mark that its latest alert has aged (R5, R6, R15, R19; the mark is
the model's, log 19). -/
def Obligations.AppendAccepts : Prop :=
  ∀ (o : Offer) (s : State),
    (s.journal.mode = .halt ∧ s.journal.held.length < 2047) ∨
      (s.journal.mode = .wrap ∧ s.journal.held.length < 2048) →
    let stamp := o.stamp.getD ⟨s.clock.timeOfDay, s.clock.quality⟩;
    let journal : Journal := ⟨s.journal.held ++ [⟨s.journal.next, stamp, s.rules.generation, o.flags, o.body⟩],
      s.journal.next + 1, s.journal.mode⟩;
    ((∀ line level cls id, o.body = .lineChange line level cls id → o.flags.alert = false) →
      ∃ aged, append o s =
          ({ s with journal := journal, alert := { s.alert with aged := aged } }, some s.journal.next) ∧
        (s.alert.latest = none → aged = s.alert.aged) ∧
        (∀ n, s.alert.latest = some n →
          (aged = true ↔ s.alert.aged = true ∨ 2064 < (s.journal.next + 1 - n).toNat))) ∧
    (∀ line level cls id, o.body = .lineChange line level cls id → o.flags.alert = true →
      append o s = (takeAlert ⟨s.journal.next, line, level, cls, stamp, false⟩ { s with journal := journal },
        some s.journal.next))

/-- A refused append in HALT mode: with 2,047 records and no open marker it raises the marker and JOURNAL_FULL, with
2,048 it is counted into the open marker; a refused alert is handed over with the marker's number (R6, R15 to R17). -/
def Obligations.AppendRefuses : Prop :=
  ∀ (o : Offer) (s : State), s.journal.mode = .halt →
    let stamp := o.stamp.getD ⟨s.clock.timeOfDay, s.clock.quality⟩;
    let alerted : Bool := match o.body with
      | .lineChange _ _ _ _ => o.flags.alert
      | _ => false;
    let handed : Seq → State → State := fun marker t => match o.body with
      | .lineChange line level cls _ =>
        if o.flags.alert then takeAlert ⟨marker, line, level, cls, stamp, true⟩ t else t
      | _ => t;
    (s.journal.held.length = 2047 → s.journal.markerOpen = false →
      ∃ aged, append o s = (handed s.journal.next (raise .journalFull .none { s with
        alert := { s.alert with aged := aged }
        journal := ⟨s.journal.held ++ [⟨s.journal.next, ⟨s.clock.timeOfDay, s.clock.quality⟩, s.rules.generation,
          ⟨false, false, false, false, true⟩,
          .overflow ⟨stamp, stamp, 1, if alerted then 1 else 0, putClass 0 o.body.lineClass⟩⟩],
          s.journal.next + 1, .halt⟩ }), none)) ∧
    (∀ pre m c, s.journal.held = pre ++ [m] → pre.length = 2047 → m.body = .overflow c →
      m.flags.markerOpen = true →
      append o s = (handed (s.journal.next - 1) { s with journal := { s.journal with
        held := pre ++ [{ m with body := .overflow ⟨c.firstStamp, stamp, min (c.records + 1) 4294967295,
          if alerted then min (c.alerts + 1) 4294967295 else c.alerts, putClass c.classes o.body.lineClass⟩ }] } },
        none))

/-- In WRAP mode with a full journal the oldest record is removed, reader A and then reader B are told of its number
(that order is the model's choice, log 29), and the offered record is then accepted (R19). A reader and an overwritten
record: one whose ack point lies at or above the record loses nothing; any other has its waiting RECORDS frame
withdrawn, its ack point moved to the record, its send point above it, the record put into its pending gap, and
RECORDS_OVERWRITTEN raised (R31, R41). The withdrawal of a reader's waiting RECORDS frame sets its send point back to
the frame's first record, and stops the retransmit timer if nothing is then in flight; with no such frame waiting,
nothing happens (R30, R31). -/
def Obligations.OldestRecordIsOverwritten : Prop :=
  (∀ (o : Offer) (s : State) (r : Record) (rest : List Record), s.journal.mode = .wrap → s.journal.held = r :: rest →
     rest.length = 2047 →
     append o s = append o (loseRecord r.seq .b (loseRecord r.seq .a
       { s with journal := { s.journal with held := rest } }))) ∧
  (∀ (n : Seq) (p : Port) (s : State),
     (s.readers.get p = none → loseRecord n p s = s) ∧
     (∀ r, s.readers.get p = some r → (s.journal.next - r.ack).toNat ≤ (s.journal.next - n).toNat →
       loseRecord n p s = s) ∧
     (∀ r, s.readers.get p = some r → (s.journal.next - n).toNat < (s.journal.next - r.ack).toNat →
       let w := withdrawRecords p s;
       ∃ x send, w.readers.get p = some x ∧
         send = (if (s.journal.next - n).toNat ≤ (s.journal.next - x.send).toNat then n + 1 else x.send) ∧
         loseRecord n p s = raise .recordsOverwritten (.port p) (w.setReader p (some { x with
           ack := n
           send := send
           gap := some ((x.gap.map (·.1)).getD n, n)
           timer := if send = n + 1 then none else x.timer })))) ∧
  (∀ (p : Port) (s : State),
     ((∀ rs, .records rs ∉ (s.ports.get p).waiting) → withdrawRecords p s = s) ∧
     (∀ r pre x xs post, s.readers.get p = some r → (s.ports.get p).waiting = pre ++ .records (x :: xs) :: post →
       (∀ rs, .records rs ∉ pre ∧ .records rs ∉ post) →
       withdrawRecords p s = (s.setPort p { s.ports.get p with waiting := pre ++ post }).setReader p
         (some { r with send := x.seq, timer := if x.seq = r.ack + 1 then none else r.timer })))

/-- Release: with no retaining reader nothing is released; else every held record at or below the release point (of
the retaining readers' ack points, the one furthest below the next number) leaves, and an open marker that stays is
closed if a record left (R18, R20). -/
def Obligations.ReleaseDropsAcknowledged : Prop :=
  ∀ (s : State),
    ((∀ p r, s.readers.get p = some r → r.state = .dormant ∧ r.retain = false) → evaluateRelease s = s) ∧
    (∀ p r, s.readers.get p = some r → (r.state ≠ .dormant ∨ r.retain = true) →
      (∀ p' r', s.readers.get p' = some r' → (r'.state ≠ .dormant ∨ r'.retain = true) →
        (s.journal.next - r'.ack).toNat ≤ (s.journal.next - r.ack).toNat) →
      runFrom s.journal.next s.journal.held → s.journal.held.length ≤ 2048 →
      let below := (s.journal.next - r.ack).toNat;
      let count := s.journal.held.length;
      (count < below → evaluateRelease s = s) ∧
      (below ≤ count → 0 < count → ∃ kept,
        evaluateRelease s = { s with journal := { s.journal with held := kept } } ∧
        kept.length = below - 1 ∧
        (∀ i, i + 1 < kept.length → kept[i]? = s.journal.held[count + 1 - below + i]?) ∧
        (∀ x, s.journal.held.getLast? = some x → kept.getLast? = none ∨
          kept.getLast? = some (if x.isOpenMarker then { x with flags := { x.flags with markerOpen := false } } else x))))

/-- CLEAR_JOURNAL from the claimant: waiting RECORDS frames are withdrawn, every record is removed, CLEARED is the one
held record, and every subscribed reader stands at it with nothing in flight, its pending gap kept (R14, R21, R44).
SET_JOURNAL_MODE from the claimant, by Table 1-6 (R22). -/
def Obligations.JournalIsClearedAndItsModeSet : Prop :=
  (∀ (p : Port) (s : State) (q : Request), Ready s p .clearJournal q → s.holdsClaim p = true →
     let w := withdrawRecords .b (withdrawRecords .a (s.putInHand p));
     ∃ aged range readers, exec (.clearJournal p) s = .next ({ w with
         alert := { s.alert with aged := aged }
         readers := readers
         journal := ⟨[⟨s.journal.next, ⟨s.clock.timeOfDay, s.clock.quality⟩, s.rules.generation,
           ⟨false, false, false, false, false⟩, .cleared s.journal.held.length range⟩],
           s.journal.next + 1, s.journal.mode⟩ }.replied p q .ok .none) ∧
       (s.journal.held = [] → range = none) ∧
       (∀ x, s.journal.held = [x] → range = some (x.seq, x.seq)) ∧
       (∀ x xs y, s.journal.held = x :: xs ++ [y] → range = some (x.seq, y.seq)) ∧
       ∀ p', (w.readers.get p' = none → readers.get p' = none) ∧
         ∀ r, w.readers.get p' = some r → readers.get p' = some { r with
           ack := s.journal.next - 1
           send := s.journal.next
           timer := none
           retry := 0
           state := if r.state = .dormant then .dormant else .active }) ∧
  (∀ (p : Port) (s : State) (q : Request) (b : Byte), Ready s p .setJournalMode q → s.holdsClaim p = true →
     q.payload = [b] →
     let u := s.putInHand p;
     (1 < b.toNat → exec (.setJournalMode p) s = .next (u.replied p q .badValue .none)) ∧
     (b = 0 → s.journal.mode = .halt → exec (.setJournalMode p) s = .next (u.replied p q .ok .none)) ∧
     (b = 1 → s.journal.mode = .wrap → exec (.setJournalMode p) s = .next (u.replied p q .ok .none)) ∧
     (b = 1 → s.journal.mode = .halt → s.journal.markerOpen = false → exec (.setJournalMode p) s =
       .next ({ u with journal := { s.journal with mode := .wrap } }.replied p q .ok .none)) ∧
     (b = 1 → s.journal.mode = .halt → ∀ pre m, s.journal.held = pre ++ [m] → m.isOpenMarker = true →
       exec (.setJournalMode p) s = .next ({ u with journal := ⟨pre ++ [{ m with
         flags := { m.flags with markerOpen := false } }], s.journal.next, .wrap⟩ }.replied p q .ok .none)) ∧
     (b = 0 → s.journal.mode = .wrap → s.journal.held.length < 2048 → exec (.setJournalMode p) s =
       .next ({ u with journal := { s.journal with mode := .halt } }.replied p q .ok .none)) ∧
     (b = 0 → s.journal.mode = .wrap → 2048 ≤ s.journal.held.length →
       exec (.setJournalMode p) s = .next (u.replied p q .journalFull .none)))

/-- READ_RECORDS and GET_JOURNAL_STATUS read the journal and change nothing but their reply (R2, R23, R24). -/
def Obligations.JournalIsRead : Prop :=
  ∀ (p : Port) (s : State) (q : Request), runFrom s.journal.next s.journal.held → s.journal.held.length ≤ 2048 →
    let u := s.putInHand p;
    let count := s.journal.held.length;
    let report : Option Subscription → ReaderReport := fun r => match r with
      | none => ⟨.unsubscribed, none⟩
      | some x => ⟨match x.state with
          | .active => .active
          | .stalled => .stalled
          | .dormant => .dormant, some (x.ack, x.send, x.window)⟩;
    (∀ start b, Ready s p .readRecords q → q.payload = seqBytes start ++ [b] →
      let below := (s.journal.next - start).toNat;
      ((b = 0 ∨ 4 < b.toNat) → exec (.readRecords p) s = .next (u.replied p q .badValue .none)) ∧
      (1 ≤ b.toNat → b.toNat ≤ 4 → (below = 0 ∨ count < below) →
        exec (.readRecords p) s = .next (u.replied p q .notHeld .none)) ∧
      (1 ≤ b.toNat → b.toNat ≤ 4 → 1 ≤ below → below ≤ count → exec (.readRecords p) s =
        .next (u.replied p q .ok (.records ((s.journal.held.drop (count - below)).take b.toNat))))) ∧
    (Ready s p .getJournalStatus q → exec (.getJournalStatus p) s = .next (u.replied p q .ok (.journal
      ⟨s.journal.mode, count, s.journal.held.head?.map (·.seq), s.journal.next,
        (s.journal.held.getLast?.map (·.isOpenMarker)).getD false, report s.readers.a, report s.readers.b⟩)))

/-- A record as bytes: its first byte counts its bytes, and each kind has the length of Tables 10-8 and 10-9, so that
four records always fit a frame (R174). -/
def Obligations.RecordsHaveTheirLengths : Prop :=
  (∀ r : Record, r.bytes.head? = some (BitVec.ofNat 8 r.bytes.length) ∧ r.bytes.length = 17 + (match r.body with
    | .lineChange _ _ _ _ => 5
    | .chatterOn _ _ _ _ => 4
    | .chatterOff _ _ _ _ => 4
    | .incidentClose _ => 35
    | .overflow _ => 25
    | .timeSet _ _ _ => 15
    | .timeStep _ => 4
    | .qualityChange _ _ => 2
    | .rulesetSwitch _ _ _ => 5
    | .snapshot _ _ _ _ => 13
    | .cleared _ _ => 10
    | .restarted _ _ => 2)) ∧
  ∀ rs : List Record, rs.length ≤ 4 → (Frame.records rs).payload.length ≤ 250

/-! ### Delivery (R26 to R43) -/

/-- SUBSCRIBE: fields out of range, then a FROM start that is neither held nor the next number, are refused; otherwise
the port's reader is set up anew, its waiting RECORDS and GAP frames withdrawn, and release is evaluated (R28, R43).
-/
def Obligations.SubscribeSetsReaderUp : Prop :=
  ∀ (p : Port) (s : State) (q : Request) (code window hi lo retain : Byte) (n : Seq), Ready s p .subscribe q →
    q.payload = code :: (seqBytes n ++ [window, hi, lo, retain]) →
    let u := s.putInHand p;
    let ms := hi.toNat * 256 + lo.toNat;
    let inRange := code.toNat ≤ 2 ∧ 1 ≤ window.toNat ∧ window.toNat ≤ 16 ∧ 20 ≤ ms ∧ ms ≤ 5000 ∧ retain.toNat ≤ 1;
    let start := if code = 0 then s.journal.next - BitVec.ofNat 32 s.journal.held.length
      else if code = 1 then s.journal.next else n;
    let below := (s.journal.next - n).toNat;
    (¬inRange → exec (.subscribe p) s = .next (u.replied p q .badValue .none)) ∧
    (inRange → code = 2 → s.journal.held.length < below →
      exec (.subscribe p) s = .next (u.replied p q .notHeld .none)) ∧
    (inRange → (code = 2 → below ≤ s.journal.held.length) → exec (.subscribe p) s =
      .next ((evaluateRelease ((u.setPort p { u.ports.get p with
          waiting := (s.ports.get p).waiting.filter fun f => decide (f.rank < 4) }).setReader p
        (some ⟨.active, start - 1, start, window.toNat, ms, 0, retain == 1, none, none⟩))).replied p q .ok
          (.points (start - 1) start)))

/-- RESUME: a reader that is subscribed goes back to its ack point, ACTIVE, with nothing in flight, its window and its
pending gap kept (R38, Table 2-4). UNSUBSCRIBE and, from the claimant, DROP_READER end a reader: its waiting RECORDS
and GAP frames are withdrawn, it becomes UNSUBSCRIBED, and release is evaluated (R39, R40). -/
def Obligations.ReadersResumeAndEnd : Prop :=
  (∀ (p : Port) (s : State) (q : Request), Ready s p .resume q →
     let w := withdrawRecords p (s.putInHand p);
     (s.readers.get p = none → exec (.resume p) s = .next ((s.putInHand p).replied p q .notSubscribed .none)) ∧
     (∀ r, s.readers.get p = some r → exec (.resume p) s = .next ((w.setReader p (some { r with
         state := .active, send := r.ack + 1, retry := 0, timer := none })).replied p q .ok
       (.resumed r.ack (r.ack + 1) r.window r.gap.isSome)))) ∧
  (∀ (p : Port) (s : State) (q : Request),
     let u := s.putInHand p;
     let ended : Port → State := fun reader => if s.readers.get reader = none then u
       else evaluateRelease ((u.setPort reader { u.ports.get reader with
         waiting := (u.ports.get reader).waiting.filter fun f => decide (f.rank < 4) }).setReader reader none);
     (Ready s p .unsubscribe q → exec (.unsubscribe p) s = .next ((ended p).replied p q .ok .none)) ∧
     (∀ b, Ready s p .dropReader q → s.holdsClaim p = true → q.payload = [b] →
       (b = 0 → exec (.dropReader p) s = .next ((ended .a).replied p q .ok .none)) ∧
       (b = 1 → exec (.dropReader p) s = .next ((ended .b).replied p q .ok .none)) ∧
       (1 < b.toNat → exec (.dropReader p) s = .next (u.replied p q .badValue .none))))

/-- ACK, by the rows of Table 2-3 in their order (R32): no reader awake; a number too far below, or at or above the
send point; a number at or below the ack point; and one that moves the ack point, after which release is evaluated. -/
def Obligations.AckMovesAckPoint : Prop :=
  ∀ (p : Port) (s : State) (q : Request) (n : Seq), Ready s p .ack q → q.payload = seqBytes n →
    let u := s.putInHand p;
    let below : Seq → Nat := fun x => (s.journal.next - x).toNat;
    ((∀ r, s.readers.get p = some r → r.state = .dormant) →
      exec (.ack p) s = .next (u.replied p q .notSubscribed .none)) ∧
    (∀ r, s.readers.get p = some r → r.state ≠ .dormant →
      ((2064 < below n ∨ below n ≤ below r.send) →
        exec (.ack p) s = .next (u.replied p q .badAck (.ackPoint r.ack))) ∧
      (below n ≤ 2064 → below r.send < below n → below r.ack ≤ below n →
        exec (.ack p) s = .next (u.replied p q .ok (.ackPoint r.ack))) ∧
      (below n ≤ 2064 → below r.send < below n → below n < below r.ack →
        exec (.ack p) s = .next ((evaluateRelease (u.setReader p (some { r with
          ack := n, retry := 0, state := .active
          timer := if r.send = n + 1 then none
            else some (s.clock.uptime + BitVec.ofNat 48 (r.timeoutMs * 1000)) }))).replied p q .ok (.ackPoint n))))

/-- QUEUE_RECORDS_FRAME: an ACTIVE reader with room in its window, no pending gap and no RECORDS frame waiting queues
one with up to four held records from its send point on, never an open marker; its send point moves past them and a
stopped retransmit timer starts. When a condition fails, or no such record is held, nothing happens (R29, R30, R31).
QUEUE_GAP_FRAME: an ACTIVE or STALLED reader with a pending gap and no GAP frame waiting queues one with the gap's
range and its ack point, and the pending gap is cleared; otherwise nothing happens (R42). RETRANSMIT_TIMER_EXPIRY:
below the eighth expiry an ACTIVE reader goes back to its ack point with its retry count one higher; at the eighth it
is STALLED and DELIVERY_STALLED is raised. Before the deadline nothing happens (R33). -/
def Obligations.ReaderSendsAndGoesBack : Prop :=
  (∀ (p : Port) (s : State) (r : Subscription), s.journal.Ok → s.readers.get p = some r →
     let flight := (r.send - r.ack - 1).toNat;
     let below := (s.journal.next - r.send).toNat;
     let from_ := s.journal.held.drop (s.journal.held.length - below);
     let rs := (if s.journal.markerOpen then from_.dropLast else from_).take (min 4 (r.window - flight));
     let ready := r.state = .active ∧ flight < r.window ∧ r.gap = none ∧
       (∀ xs, .records xs ∉ (s.ports.get p).waiting) ∧ 1 ≤ below ∧ below ≤ s.journal.held.length ∧ rs ≠ [];
     (ready → exec (.queueRecordsFrame p) s = .next ((s.setPort p { s.ports.get p with
         waiting := (s.ports.get p).waiting ++ [.records rs] }).setReader p (some { r with
           send := r.send + BitVec.ofNat 32 rs.length
           timer := some (r.timer.getD (s.clock.uptime + BitVec.ofNat 48 (r.timeoutMs * 1000))) }))) ∧
     (¬ready → exec (.queueRecordsFrame p) s = .next s)) ∧
  (∀ (p : Port) (s : State),
     (∀ r first last, s.readers.get p = some r → r.state ≠ .dormant → r.gap = some (first, last) →
       (∀ x y z, .gap x y z ∉ (s.ports.get p).waiting) →
       exec (.queueGapFrame p) s = .next ((s.setPort p { s.ports.get p with
         waiting := (s.ports.get p).waiting ++ [.gap first last r.ack] }).setReader p
           (some { r with gap := none }))) ∧
     ((∀ r, s.readers.get p = some r → r.state = .dormant ∨ r.gap = none ∨
         ∃ x y z, .gap x y z ∈ (s.ports.get p).waiting) → exec (.queueGapFrame p) s = .next s)) ∧
  (∀ (p : Port) (s : State) (r : Subscription) (d : Uptime), s.readers.get p = some r → r.state = .active →
     r.timer = some d →
     let w := withdrawRecords p s;
     (reached s.clock.uptime d = false → exec (.retransmitTimerExpiry p) s = .next s) ∧
     (reached s.clock.uptime d = true → r.retry < 7 → exec (.retransmitTimerExpiry p) s =
       .next (w.setReader p (some { r with retry := r.retry + 1, send := r.ack + 1, timer := none }))) ∧
     (reached s.clock.uptime d = true → 7 ≤ r.retry → ∃ x, w.readers.get p = some x ∧
       exec (.retransmitTimerExpiry p) s = .next (raise .deliveryStalled (.port p) (w.setReader p
         (some { x with retry := r.retry + 1, state := .stalled, timer := none })))))

/-! ### Alerts, session options and exceptions (R138 to R151) -/

/-- An alert taken: pending, the latest alert moved, nALERT low, and an ALERT frame for each open session that has
alert frames on and a threshold at or below the class; with four waiting, the oldest is withdrawn first and counted,
up to 255 (R138 to R141). -/
def Obligations.AlertIsTakenAndOffered : Prop :=
  ∀ (a : AlertInfo) (s : State), ∃ ports, takeAlert a s = { s with
      alert := { pending := true, latest := some a.seq, aged := false, nAlertLow := true }, ports := ports } ∧
    ∀ p, ((s.ports.get p).session = none → ports.get p = s.ports.get p) ∧
      ∀ ses, (s.ports.get p).session = some ses →
        let waiting := (s.ports.get p).waiting;
        let frame : Nat → Frame := fun withdrawn =>
          .alert ⟨a.seq, a.line, a.level, a.cls, a.stamp, a.refused, withdrawn⟩;
        ((ses.alertFrames = false ∨ a.cls < ses.threshold) → ports.get p = s.ports.get p) ∧
        (ses.alertFrames = true → ses.threshold ≤ a.cls → (waiting.filter (·.rank == 1)).length < 4 →
          ports.get p = { s.ports.get p with waiting := waiting ++ [frame ses.withdrawn] }) ∧
        (ses.alertFrames = true → ses.threshold ≤ a.cls → 4 ≤ (waiting.filter (·.rank == 1)).length →
          ∀ pre f post, waiting = pre ++ .alert f :: post → (∀ g, .alert g ∉ pre) →
          ports.get p = { s.ports.get p with
            waiting := pre ++ post ++ [frame (min 255 (ses.withdrawn + 1))]
            session := some { ses with withdrawn := min 255 (ses.withdrawn + 1) } })

/-- CLEAR_ALERT: with no alert pending, OK; naming a number at or above the latest alert, or any number once the
latest alert has aged, the pending flag is cleared and nALERT released; else STALE (R142). -/
def Obligations.ClearAlertChecksLatest : Prop :=
  ∀ (p : Port) (s : State) (q : Request) (n : Seq), Ready s p .clearAlert q → q.payload = seqBytes n →
    let u := s.putInHand p;
    let cleared := ({ u with alert := { s.alert with pending := false, nAlertLow := false } }.replied p q .ok
      (.alert false s.alert.latest));
    (s.alert.pending = false →
      exec (.clearAlert p) s = .next (u.replied p q .ok (.alert false s.alert.latest))) ∧
    (s.alert.pending = true → s.alert.aged = true → exec (.clearAlert p) s = .next cleared) ∧
    (∀ latest, s.alert.pending = true → s.alert.aged = false → s.alert.latest = some latest →
      ((s.journal.next - n).toNat ≤ (s.journal.next - latest).toNat → exec (.clearAlert p) s = .next cleared) ∧
      ((s.journal.next - latest).toNat < (s.journal.next - n).toNat → exec (.clearAlert p) s =
        .next (u.replied p q .stale (.alert true (some latest)))))

/-- SET_SESSION_OPTIONS: the three options take their new values together; alert frames turned off withdraws the
session's waiting ALERT frames uncounted, notices turned off withdraws its waiting NOTICE frame and remembers a table
that is not empty, and notices turned on with the flag set offers one (R141, R144, R148). That nothing is queued where a
NOTICE already waits is the model's reading (log 22). -/
def Obligations.SessionOptionsAreWritten : Prop :=
  ∀ (p : Port) (s : State) (q : Request) (x y z : Byte) (ses : Session), Ready s p .setSessionOptions q →
    q.payload = [x, y, z] → (s.ports.get p).session = some ses →
    ((1 < x.toNat ∨ 7 < y.toNat ∨ 1 < z.toNat) →
      exec (.setSessionOptions p) s = .next ((s.putInHand p).replied p q .badValue .none)) ∧
    (x.toNat ≤ 1 → z.toNat ≤ 1 → ∀ cls : ClassNo, y = BitVec.ofNat 8 cls.val →
      let alerts := x == 1;
      let notices := z == 1;
      let kept := if ses.alertFrames && !alerts then (s.ports.get p).waiting.filter (·.rank != 1)
        else (s.ports.get p).waiting;
      let leave : List Frame → Bool → Result := fun waiting noticePending =>
        .next (((s.putInHand p).setPort p { (s.putInHand p).ports.get p with
          waiting := waiting
          session := some { ses with
            alertFrames := alerts, threshold := cls, notices := notices, noticePending := noticePending }
          }).replied p q .ok (.options alerts cls notices ses.withdrawn s.alert.pending s.alert.latest));
      (ses.notices = notices → exec (.setSessionOptions p) s = leave kept ses.noticePending) ∧
      (ses.notices = false → notices = true → ses.noticePending = false →
        exec (.setSessionOptions p) s = leave kept false) ∧
      (ses.notices = false → notices = true → ses.noticePending = true → (∀ f ∈ kept, f.rank ≠ 2) →
        exec (.setSessionOptions p) s =
          leave (kept ++ [.notice s.exceptions.occupied s.exceptions.overflow]) false) ∧
      (ses.notices = false → notices = true → ses.noticePending = true → (∃ f ∈ kept, f.rank = 2) →
        exec (.setSessionOptions p) s = leave kept false) ∧
      (ses.notices = true → notices = false → (∀ f ∈ kept, f.rank ≠ 2) →
        exec (.setSessionOptions p) s = leave kept ses.noticePending) ∧
      (ses.notices = true → notices = false → (∃ f ∈ kept, f.rank = 2) →
        exec (.setSessionOptions p) s =
          leave (kept.filter (·.rank != 2)) (ses.noticePending || !s.exceptions.isEmpty)))

/-- An exception raised: a table in overflow stays as it is; an occupied slot of the same kind and subject is counted,
up to 65,535; else the lowest free slot takes it; else the overflow flag is set (R145). A raise changes nothing but
the table, unless it makes an empty table not empty: then each port's open session with notices on is offered a NOTICE
frame, at most one waiting, and one with notices off is marked (R147, R148). That a NOTICE already waiting stays, and no
other is queued, is the model's reading (log 22). -/
def Obligations.RaisedExceptionTakesItsSlot : Prop :=
  (∀ (kind : ExceptionKind) (subject : ExceptionSubject) (s : State), s.exceptions.Ok →
     let t := (raise kind subject s).exceptions;
     (s.exceptions.overflow = true → t = s.exceptions) ∧
     (s.exceptions.overflow = false →
       (∀ (i : SlotNo) (e : ExceptionSlot), s.exceptions.slots[i] = some e → e.kind = kind → e.subject = subject →
         t = ⟨s.exceptions.slots.set i (some { e with count := min 65535 (e.count + 1), last := s.clock.uptime }),
           false⟩) ∧
       ((∀ (i : SlotNo) (e : ExceptionSlot), s.exceptions.slots[i] = some e → e.kind ≠ kind ∨ e.subject ≠ subject) →
         (∀ i : SlotNo, s.exceptions.slots[i] = none → (∀ j : SlotNo, j < i → s.exceptions.slots[j] ≠ none) →
           t = ⟨s.exceptions.slots.set i (some ⟨kind, subject, s.clock.uptime, s.clock.uptime, 1⟩), false⟩) ∧
         ((∀ i : SlotNo, s.exceptions.slots[i] ≠ none) → t = ⟨s.exceptions.slots, true⟩)))) ∧
  (∀ (kind : ExceptionKind) (subject : ExceptionSubject) (s : State), ∃ ports,
     let t := (raise kind subject s).exceptions;
     raise kind subject s = { s with exceptions := t, ports := ports } ∧
     (s.exceptions.isEmpty = false → ports = s.ports) ∧
     (s.exceptions.isEmpty = true → ∀ p,
       ((s.ports.get p).session = none → ports.get p = s.ports.get p) ∧
       ∀ ses, (s.ports.get p).session = some ses →
         (ses.notices = false →
           ports.get p = { s.ports.get p with session := some { ses with noticePending := true } }) ∧
         (ses.notices = true → (∃ f ∈ (s.ports.get p).waiting, f.rank = 2) → ports.get p = s.ports.get p) ∧
         (ses.notices = true → (∀ f ∈ (s.ports.get p).waiting, f.rank ≠ 2) →
           ports.get p = { s.ports.get p with
             waiting := (s.ports.get p).waiting ++ [.notice t.occupied t.overflow] })))

/-- CLEAR_EXCEPTION frees a slot, or every slot and the overflow flag; a table left empty withdraws waiting NOTICE
frames and clears both sessions' notice-pending flags (R147, R148, R150). -/
def Obligations.ExceptionsAreCleared : Prop :=
  ∀ (p : Port) (s : State) (q : Request) (b : Byte), Ready s p .clearException q → q.payload = [b] →
    let u := s.putInHand p;
    let silenced : PortState → PortState := fun x => { x with
      waiting := x.waiting.filter (·.rank != 2)
      session := x.session.map fun ses => { ses with noticePending := false } };
    let leave : ExceptionTable → Result := fun t =>
      .next ((if t.isEmpty then { u with exceptions := t, ports := ⟨silenced u.ports.a, silenced u.ports.b⟩ }
        else { u with exceptions := t }).replied p q .ok (.occupied t.occupied t.overflow));
    (b ≠ 255 → 8 ≤ b.toNat → exec (.clearException p) s = .next (u.replied p q .badValue .none)) ∧
    (∀ i : SlotNo, b = BitVec.ofNat 8 i.val →
      exec (.clearException p) s = leave { s.exceptions with slots := s.exceptions.slots.set i none }) ∧
    (b = 255 → exec (.clearException p) s = leave ⟨Vector.replicate 8 none, false⟩)

/-! ### Requests that read (R61, R81, R102, R111, R135, R149) -/

/-- GET_LINES, GET_TIME, GET_SWITCH_STATUS and GET_EXCEPTIONS report the state and change nothing but their reply
(R81, R102, R135, R149). READ_RULE answers the named entry of the named bank, with its bank, kind and index echoed; a
bank, kind or index out of range is BAD_VALUE, but the index of the global entry is not judged (R111, R170). -/
def Obligations.StateIsReported : Prop :=
  (∀ (p : Port) (s : State) (q : Request),
     let u := s.putInHand p;
     let c := s.clock;
     (Ready s p .getLines q → ∃ ls,
       exec (.getLines p) s = .next (u.replied p q .ok (.lines ls s.fifo.length)) ∧ ls.length = 32 ∧
       ∀ i : LineNo, ls[i.val]? = some ⟨s.lines[i].raw, s.lines[i].settled, match s.lines[i].phase with
           | .off => .off
           | .idle => .idle
           | .confirming _ _ _ => .confirming
           | .lockedOut _ => .lockedOut, s.lines[i].held.isSome, s.lines[i].chatterCount⟩) ∧
     (Ready s p .getTime q → exec (.getTime p) s = .next (u.replied p q .ok (.time
       ⟨c.timeOfDay, c.quality, c.uptime, c.lastCorrection, c.goodCount, c.outlierCount,
         c.lastPulse.map fun x => min (c.uptime - x).toNat 4294967295, c.options⟩))) ∧
     (Ready s p .getSwitchStatus q → ∃ held,
       exec (.getSwitchStatus p) s = .next (u.replied p q .ok (.switchStatus ⟨match s.switch.phase with
           | .idle => .idle
           | .validating _ _ => .validating
           | .draining => .draining, s.switch.requester, s.switch.outcome, s.rules.generation, s.fifo.length, held⟩)) ∧
       ∀ i : LineNo, held.getLsbD i.val = s.lines[i].held.isSome) ∧
     (Ready s p .getExceptions q → ∃ slots lowest,
       exec (.getExceptions p) s = .next (u.replied p q .ok (.exceptions slots s.exceptions.overflow lowest)) ∧
       slots.length = 8 ∧ (∀ i : SlotNo, slots[i.val]? = some s.exceptions.slots[i]) ∧
       (lowest = none ↔ ∀ i : SlotNo, s.exceptions.slots[i] = none) ∧
       ∀ i : SlotNo, lowest = some i → s.exceptions.slots[i] ≠ none ∧
         ∀ j : SlotNo, j < i → s.exceptions.slots[j] = none)) ∧
  (∀ (p : Port) (s : State) (q : Request) (x y z : Byte), Ready s p .readRule q → q.payload = [x, y, z] →
     let bank := if x = 0 then s.rules.active else s.rules.staged;
     let answer : EntryKind → RuleEntry → Result := fun kind entry =>
       .next ((s.putInHand p).replied p q .ok (.rule ⟨if x = 0 then .active else .staged, kind, z.toNat,
         s.rules.generation, decide (s.switch.phase ≠ .idle), entry⟩));
     ((1 < x.toNat ∨ 2 < y.toNat ∨ (y = 0 ∧ 32 ≤ z.toNat) ∨ (y = 1 ∧ 16 ≤ z.toNat)) →
       exec (.readRule p) s = .next ((s.putInHand p).replied p q .badValue .none)) ∧
     (x.toNat ≤ 1 →
       (y = 0 → ∀ i : LineNo, i.val = z.toNat → exec (.readRule p) s = answer .line (.line bank.lines[i])) ∧
       (y = 1 → ∀ g : GroupNo, g.val = z.toNat → exec (.readRule p) s = answer .group (.group bank.groups[g])) ∧
       (y = 2 → exec (.readRule p) s = answer .global (.global bank.period))))

/-- LIST_INCIDENTS answers the next id, the number of open incidents, up to four of the OPEN slots at or above the
asked one with the time their timers still run, and the next OPEN slot not given (R61). -/
def Obligations.IncidentsAreListed : Prop :=
  ∀ (p : Port) (s : State) (q : Request) (b : Byte), Ready s p .listIncidents q → q.payload = [b] →
    let remaining : Uptime → Nat := fun d => if reached s.clock.uptime d then 0 else (d - s.clock.uptime).toNat;
    let isOpen : List SlotNo := (List.finRange 8).filter fun i => s.incidents.slots[i].isSome;
    let found := isOpen.filter fun i => decide (b.toNat ≤ i.val);
    (8 ≤ b.toNat → exec (.listIncidents p) s = .next ((s.putInHand p).replied p q .badValue .none)) ∧
    (b.toNat < 8 → ∃ given : List IncidentReport,
      exec (.listIncidents p) s = .next ((s.putInHand p).replied p q .ok
        (.incidents s.incidents.nextId isOpen.length given found[4]?)) ∧
      given.map (·.slot) = found.take 4 ∧
      ∀ r ∈ given, s.incidents.slots[r.slot] = some r.incident ∧
        r.quietRemainingUs = remaining r.incident.quietDeadline ∧
        r.durationRemainingUs = r.incident.durationDeadline.map remaining)

/-! ### Incidents (R48 to R60) -/

/-- A call for a group with no open incident: only OPEN_OR_JOIN opens one, in the lowest FREE slot, with the next id
or, where open incidents hold it, the first following id that none holds; with no FREE slot INCIDENT_TABLE_FULL is
raised. A member limit of 1 closes it at once (R48, R50, R51, R53). A call for a group with an open incident joins it:
one member more, the line and class put in, the first and last member moved if the change's uptime lies before the one
or at or after the other, and the quiet deadline counted from the last member. A CLOSE line, or else the member limit,
closes it in the answer (R48, R52 to R54). -/
def Obligations.CallOpensOrJoinsIncident : Prop :=
  (∀ (c : Call) (s : State),
     (∀ (j : SlotNo) (y : Incident), s.incidents.slots[j] = some y → y.group ≠ c.group) →
     let rule := s.rules.active.groups[c.group];
     (c.role ≠ .openOrJoin → incidentCall c s = (s, ⟨none, false, none⟩)) ∧
     (c.role = .openOrJoin → (∀ j : SlotNo, s.incidents.slots[j] ≠ none) →
       incidentCall c s = (raise .incidentTableFull (.group c.group) s, ⟨none, false, none⟩)) ∧
     (c.role = .openOrJoin → ∀ i : SlotNo, s.incidents.slots[i] = none →
       (∀ j : SlotNo, j < i → s.incidents.slots[j] ≠ none) → ∃ (id : IncidentId) (n : Nat),
       let following : Nat → IncidentId := fun m =>
         Nat.iterate (fun x : IncidentId => if x = 65535 then 1 else x + 1) m s.incidents.nextId;
       id = following n ∧ (∀ (j : SlotNo) (y : Incident), s.incidents.slots[j] = some y → y.id ≠ id) ∧
       (∀ m < n, ∃ (j : SlotNo) (y : Incident), s.incidents.slots[j] = some y ∧ y.id = following m) ∧
       let x : Incident := ⟨id, c.group, c.line, c.stamp, c.uptime, c.stamp, c.uptime, c.uptime, 1,
         1#32 <<< c.line.val, c.cls, c.uptime + BitVec.ofNat 48 (rule.settleMs * 1000),
         if rule.maxDurationMs = 0 then none else some (c.uptime + BitVec.ofNat 48 (rule.maxDurationMs * 1000))⟩;
       let after : Option Incident → State := fun y => { s with
         incidents := ⟨s.incidents.slots.set i y, if id = 65535 then 1 else id + 1⟩ };
       (rule.memberLimit ≠ 1 → incidentCall c s = (after (some x), ⟨some id, true, none⟩)) ∧
       (rule.memberLimit = 1 → incidentCall c s =
         (after none, ⟨some id, true, some (closeBody .memberLimit s.clock.uptime x)⟩)))) ∧
  (∀ (c : Call) (s : State) (i : SlotNo) (x : Incident), s.RulesOk → s.incidents.slots[i] = some x →
     x.group = c.group →
     let rule := s.rules.active.groups[c.group];
     let later := reached c.uptime x.lastUptime;
     let lastUptime := if later then c.uptime else x.lastUptime;
     let y : Incident := { x with
       members := x.members + 1
       memberSet := x.memberSet ||| 1#32 <<< c.line.val
       highest := if x.highest < c.cls then c.cls else x.highest
       firstStamp := if reached c.uptime x.firstUptime then x.firstStamp else c.stamp
       firstUptime := if reached c.uptime x.firstUptime then x.firstUptime else c.uptime
       lastStamp := if later then c.stamp else x.lastStamp
       lastUptime := lastUptime
       quietDeadline := lastUptime + BitVec.ofNat 48 (rule.settleMs * 1000) };
     let after : Option Incident → State := fun z =>
       { s with incidents := { s.incidents with slots := s.incidents.slots.set i z } };
     (c.role = .close → incidentCall c s =
       (after none, ⟨some x.id, false, some (closeBody .line s.clock.uptime y)⟩)) ∧
     (c.role ≠ .close → x.members + 1 = rule.memberLimit → incidentCall c s =
       (after none, ⟨some x.id, false, some (closeBody .memberLimit s.clock.uptime y)⟩)) ∧
     (c.role ≠ .close → x.members + 1 ≠ rule.memberLimit →
       incidentCall c s = (after (some y), ⟨some x.id, false, none⟩)))

/-- An incident closed by its quiet timer, its duration timer or CLOSE_INCIDENT frees its slot and offers the
INCIDENT_CLOSE record of Table 3-7, with span and open time held at 2^32 - 1; before a timer's deadline nothing
happens (R55 to R57, R60). During a call's action, while the entry in hand whose call was taken has records left to
build, none of the three is taken: the incident stays open and the request stays in its queue (R49). -/
def Obligations.IncidentClosesWithItsRecord : Prop :=
  (∀ (s : State) (h : EntryInHand), s.classifier.inHand = some (.entry h) → h.called = true →
    (∀ i : SlotNo, exec (.quietTimerExpiry i) s = .next s ∧ exec (.durationTimerExpiry i) s = .next s) ∧
    ∀ (p : Port) (q : Request), Ready s p .closeIncident q → exec (.closeIncident p) s = .next s) ∧
  ∀ (i : SlotNo) (x : Incident),
    let closed : CloseReason → State → State := fun reason s => offer ⟨.incidentClose ⟨x.id, x.group, reason,
        x.openingLine, x.members, x.memberSet, x.firstStamp, x.lastStamp,
        min (x.lastUptime - x.firstUptime).toNat 4294967295,
        min (s.clock.uptime - x.firstUptime).toNat 4294967295, x.highest⟩, none, ⟨false, false, false, false, false⟩⟩
      { s with incidents := { s.incidents with slots := s.incidents.slots.set i none } };
    (∀ s : State, s.inAction = false → s.incidents.slots[i] = some x →
      (reached s.clock.uptime x.quietDeadline = true → exec (.quietTimerExpiry i) s = .next (closed .settled s)) ∧
      (reached s.clock.uptime x.quietDeadline = false → exec (.quietTimerExpiry i) s = .next s) ∧
      (∀ d, x.durationDeadline = some d →
        (reached s.clock.uptime d = true → exec (.durationTimerExpiry i) s = .next (closed .duration s)) ∧
        (reached s.clock.uptime d = false → exec (.durationTimerExpiry i) s = .next s)) ∧
      (x.durationDeadline = none → exec (.durationTimerExpiry i) s = .next s)) ∧
    ∀ (p : Port) (s : State) (q : Request) (hi lo : Byte), Ready s p .closeIncident q → s.inAction = false →
      s.holdsClaim p = true → q.payload = [hi, lo] →
      let u := s.putInHand p;
      let id : IncidentId := hi ++ lo;
      (id = 0 → exec (.closeIncident p) s = .next (u.replied p q .badValue .none)) ∧
      (id ≠ 0 → (∀ (j : SlotNo) (y : Incident), s.incidents.slots[j] = some y → y.id ≠ id) →
        exec (.closeIncident p) s = .next (u.replied p q .notOpen .none)) ∧
      (id ≠ 0 → s.incidents.slots[i] = some x → x.id = id →
        (∀ (j : SlotNo) (y : Incident), s.incidents.slots[j] = some y → y.id = id → j = i) →
        exec (.closeIncident p) s = .next ((closed .host u).replied p q .ok .none))

/-! ### Lines and the event FIFO (R65 to R80) -/

/-- SAMPLE_INSTANT, once the next sample instant is reached, samples the lines in ascending order and moves the next
instant on by whole sample periods to the first that lies ahead; before it nothing happens (R65; keeping the schedule
after a late instant is the model's choice, log 7). One line at a sample instant: its raw and logical level are
recorded (the logical level under the polarity in force at the sample: log 8), and in CAPTURE (line 31 only with SYNC
off) its state takes the sample: an OFF line is primed, an IDLE line
starts a confirmation unless its held slot is occupied, a CONFIRMING line bounces, counts or confirms, and a
LOCKED_OUT line that changes restarts a running release timer (R65 to R68, R72, R84, R86, R119). -/
def Obligations.SampleInstantSamplesEachLine : Prop :=
  (∀ (pins : BitVec 32) (s : State),
     let period := match s.rules.active.period with
       | .us50 => 50
       | .us100 => 100
       | .us250 => 250
       | .us500 => 500;
     let late := (s.clock.uptime - s.nextSample).toNat;
     (reached s.clock.uptime s.nextSample = false → exec (.sampleInstant pins) s = .next s) ∧
     (reached s.clock.uptime s.nextSample = true → ∃ next : Uptime,
       exec (.sampleInstant pins) s =
         .next ((List.finRange 32).foldl (sampleLine pins) { s with nextSample := next }) ∧
       0 < (next - s.clock.uptime).toNat ∧ (next - s.clock.uptime).toNat ≤ period ∧
       (next - s.nextSample).toNat = late + (next - s.clock.uptime).toNat ∧
       period ∣ late + (next - s.clock.uptime).toNat)) ∧
  (∀ (pins : BitVec 32) (i : LineNo) (s : State),
     let rule := s.rules.active.lines[i];
     let l := s.lines[i];
     let level : Level := if pins.getLsbD i.val = (rule.polarity == .normal) then .high else .low;
     let sampled : Line := { l with raw := pins.getLsbD i.val, latest := level };
     let u : State := { s with lines := s.lines.set i sampled };
     let become : Line → State := fun x => { s with lines := s.lines.set i x };
     let captured := rule.mode = .capture ∧ (i = 31 → s.clock.options.syncEnable = false);
     let now : Stamp := ⟨s.clock.timeOfDay, s.clock.quality⟩;
     (¬captured → sampleLine pins s i = u) ∧
     (captured →
       (l.phase = .off → ∃ levels awaiting,
         sampleLine pins s i = { s with
           lines := s.lines.set i { sampled with
             settled := level, phase := .idle, chatterCount := 0, window := none, release := none }
           classifier := { s.classifier with levels := levels, awaiting := awaiting } } ∧
         ∀ j : LineNo, levels.getLsbD j.val = (if j = i then level == .high else s.classifier.levels.getLsbD j.val) ∧
           awaiting.getLsbD j.val = (if j = i then false else s.classifier.awaiting.getLsbD j.val)) ∧
       (l.phase = .idle → (level = l.settled ∨ l.held.isSome = true) → sampleLine pins s i = u) ∧
       (l.phase = .idle → level ≠ l.settled → l.held = none →
         (1 < rule.debounce →
           sampleLine pins s i = become { sampled with phase := .confirming 1 now s.clock.uptime }) ∧
         (rule.debounce ≤ 1 → sampleLine pins s i = confirmChange i level now s.clock.uptime u)) ∧
       (∀ count stamp uptime, l.phase = .confirming count stamp uptime →
         (level = l.settled → sampleLine pins s i = become { sampled with phase := .idle }) ∧
         (level ≠ l.settled → count + 1 < rule.debounce →
           sampleLine pins s i = become { sampled with phase := .confirming (count + 1) stamp uptime }) ∧
         (level ≠ l.settled → rule.debounce ≤ count + 1 →
           sampleLine pins s i = confirmChange i level stamp uptime u)) ∧
       (∀ x, l.phase = .lockedOut x →
         (level ≠ l.latest → l.release.isSome = true → sampleLine pins s i = become { sampled with
           release := some (s.clock.uptime + BitVec.ofNat 48 (rule.chatterReleaseMs * 1000)) }) ∧
         ((level = l.latest ∨ l.release = none) → sampleLine pins s i = u))))

/-- A confirmed change: the level settles, the chatter count rises by one up to 255, a stopped chatter window timer
starts at the first change of a window, and a CHANGE entry is offered; a change that reaches a nonzero chatter limit
locks the line out, with CHATTER_LOCK raised (before the offer: log 18) and the release timer started once the held
slot is empty (R69, R71). CHATTER_WINDOW_EXPIRY and RELEASE_TIMER_EXPIRY at their deadlines: the chatter count becomes
0; a LOCKED_OUT line is released, IDLE and settled at the level of its latest sample (under the polarity in force at
that sample: log 8), with a RELEASE entry offered, stamped when the expiry is taken (R101). Before a deadline, and
with a stopped timer, nothing happens (R70, R73). -/
def Obligations.ConfirmedChangesAndChatter : Prop :=
  (∀ (i : LineNo) (level : Level) (stamp : Stamp) (uptime : Uptime) (s : State),
     let rule := s.rules.active.lines[i];
     let l := s.lines[i];
     let count := min 255 (l.chatterCount + 1);
     let settled : Line := { l with
       settled := level
       chatterCount := count
       phase := .idle
       window := if l.chatterCount = 0 then some (s.clock.uptime + BitVec.ofNat 48 (rule.chatterWindowMs * 1000))
         else l.window };
     let locks := rule.chatterLimit ≠ 0 ∧ rule.chatterLimit ≤ count;
     (¬locks → confirmChange i level stamp uptime s = offerEntry i (.change ⟨i, level, stamp, uptime, none, false⟩)
       { s with lines := s.lines.set i settled }) ∧
     (locks →
       let t := offerEntry i (.change ⟨i, level, stamp, uptime, some count, false⟩) (raise .chatterLock (.line i)
         { s with lines := s.lines.set i { settled with
           phase := .lockedOut level, window := none, release := none } });
       (t.lines[i].held ≠ none → confirmChange i level stamp uptime s = t) ∧
       (t.lines[i].held = none → confirmChange i level stamp uptime s = { t with lines := t.lines.set i { t.lines[i] with
         release := some (s.clock.uptime + BitVec.ofNat 48 (rule.chatterReleaseMs * 1000)) } }))) ∧
  (∀ (i : LineNo) (s : State),
     let l := s.lines[i];
     ((∀ d, l.window = some d → reached s.clock.uptime d = false) →
       exec (.chatterWindowExpiry i) s = .next s) ∧
     (∀ d, l.window = some d → reached s.clock.uptime d = true → exec (.chatterWindowExpiry i) s =
       .next { s with lines := s.lines.set i { l with chatterCount := 0, window := none } }) ∧
     ((∀ d, l.release = some d → reached s.clock.uptime d = false) →
       exec (.releaseTimerExpiry i) s = .next s) ∧
     (∀ d locked, l.release = some d → reached s.clock.uptime d = true → l.phase = .lockedOut locked →
       exec (.releaseTimerExpiry i) s = .next (offerEntry i
         (.release ⟨i, locked, l.latest, ⟨s.clock.timeOfDay, s.clock.quality⟩, s.clock.uptime, false⟩)
         { s with lines := s.lines.set i { l with
           settled := l.latest, phase := .idle, chatterCount := 0, release := none } })))

/-- An offered entry enters the FIFO when it holds fewer than 64 entries, no switch is DRAINING and no held slot is
occupied; else it waits in its line's held slot, marked WAS_HELD, and EVENTS_HELD is raised (R77). TAKE_SNAPSHOT puts
a marker at the tail under the same conditions, and is BUSY otherwise (R80). HELD_ENTRY_ADMISSION, with no switch
DRAINING, moves held entries into the FIFO in ascending line number while there is room; a LOCKED_OUT line's release
timer starts as its entry is admitted. While DRAINING nothing is admitted (R79). -/
def Obligations.EntriesEnterFifoOrAreHeld : Prop :=
  (∀ (s : State),
     let free := s.fifo.length < 64 ∧ s.switch.phase ≠ .draining ∧ ∀ j : LineNo, s.lines[j].held = none;
     (∀ (i : LineNo) (e : FrontEntry),
       (free → offerEntry i e s = { s with fifo := s.fifo ++ [.front e] }) ∧
       (¬free → offerEntry i e s = raise .eventsHeld .none { s with lines := s.lines.set i { s.lines[i] with
         held := some (match e with
           | .change c => .change { c with wasHeld := true }
           | .release r => .release { r with wasHeld := true }) } })) ∧
     ∀ (p : Port) (q : Request), Ready s p .takeSnapshot q →
       (free → exec (.takeSnapshot p) s =
         .next ({ s.putInHand p with fifo := s.fifo ++ [FifoEntry.marker p] }.replied p q .ok .none)) ∧
       (¬free → exec (.takeSnapshot p) s = .next ((s.putInHand p).replied p q .busy .none))) ∧
  (∀ s : State,
     let waiting : List LineNo := (List.finRange 32).filter fun i => s.lines[i].held.isSome;
     let admitted := waiting.take (64 - s.fifo.length);
     (s.switch.phase = .draining → exec .heldEntryAdmission s = .next s) ∧
     (s.switch.phase ≠ .draining → ∃ lines,
       exec .heldEntryAdmission s = .next { s with
         lines := lines
         fifo := s.fifo ++ admitted.filterMap fun i => s.lines[i].held.map .front } ∧
       ∀ i : LineNo, (i ∉ admitted → lines[i] = s.lines[i]) ∧ (i ∈ admitted → lines[i] = { s.lines[i] with
         held := none
         release := match s.lines[i].phase with
           | .lockedOut _ => some (s.clock.uptime +
               BitVec.ofNat 48 (s.rules.active.lines[i].chatterReleaseMs * 1000))
           | _ => s.lines[i].release })))

/-! ### The classifier (R113 to R118) -/

/-- CLASSIFIER_TAKE_ENTRY with no entry in hand takes the oldest FIFO entry, and held entries are admitted to the place
it leaves. A CHANGE under its ACTIVE line entry sets the classified level; a selected edge makes the incident call that a
group and a role ask for and offers LINE_CHANGE, after which any INCIDENT_CLOSE the call answered, and with LOCKS_OUT
CHATTER_ON, are left to build; an edge not selected offers CHATTER_ON alone, or nothing (R113 to R116). A RELEASE clears
the line's lockout flag and offers CHATTER_OFF; a release level that differs from the classified level then counts as a
change, whose LINE_CHANGE, marked AFTER_CHATTER, is left to build (R113, R117). An entry with records left stays in hand.
That each command brings one record is the model's choice (log 16), and the admission within the take is its reading of
R78 (log 17). -/
def Obligations.LineEntryIsTaken : Prop :=
  (∀ (s : State) (e : ChangeEntry) (rest : List FifoEntry), s.classifier.inHand = none →
     s.fifo = .front (.change e) :: rest →
     let rule := s.rules.active.lines[e.line];
     let taken := admitHeld { s with fifo := rest };
     ∃ levels lockouts,
       (∀ j : LineNo, levels.getLsbD j.val =
         if j = e.line then e.level == .high else s.classifier.levels.getLsbD j.val) ∧
       (∀ j : LineNo, lockouts.getLsbD j.val = if j = e.line then true else s.classifier.lockouts.getLsbD j.val) ∧
       let u : State := { taken with classifier := { s.classifier with levels := levels } };
       let selected := rule.edges = .both ∨ (rule.edges = .rising ∧ e.level = .high) ∨
         (rule.edges = .falling ∧ e.level = .low);
       let asks := rule.group.isSome = true ∧ rule.role ≠ .none;
       let called : State × CallAnswer := match rule.group with
         | some g => if rule.role = .none then (u, ⟨none, false, none⟩)
           else incidentCall ⟨e.line, g, rule.role, rule.cls, e.stamp, e.uptime⟩ u
         | none => (u, ⟨none, false, none⟩);
       let changed := offer ⟨.lineChange e.line e.level rule.cls called.2.id, some e.stamp,
         ⟨rule.alert, called.2.opened, false, e.wasHeld, false⟩⟩ called.1;
       let left : List RecordToBuild := (match called.2.closed with
         | some c => [.incidentClose c]
         | none => []) ++ match e.lockCount with
         | some n => [.chatterOn n]
         | none => [];
       let h : EntryInHand := ⟨⟨e.line, e.level, e.stamp, e.uptime, e.wasHeld, false⟩, rule, left, decide asks⟩;
       (selected → left = [] → exec .classifierTakeEntry s = .next changed) ∧
       (selected → left ≠ [] → exec .classifierTakeEntry s =
         .next { changed with classifier := { u.classifier with inHand := some (.entry h) } }) ∧
       (¬selected → e.lockCount = none → exec .classifierTakeEntry s = .next u) ∧
       (∀ n, ¬selected → e.lockCount = some n → exec .classifierTakeEntry s = .next { offer
           ⟨.chatterOn e.line e.level n rule.cls, some e.stamp, ⟨false, false, false, e.wasHeld, false⟩⟩ u with
         classifier := { u.classifier with lockouts := lockouts } })) ∧
  (∀ (s : State) (e : ReleaseEntry) (rest : List FifoEntry), s.classifier.inHand = none →
     s.fifo = .front (.release e) :: rest →
     let rule := s.rules.active.lines[e.line];
     let taken := admitHeld { s with fifo := rest };
     ∃ lockouts levels,
       (∀ j : LineNo, lockouts.getLsbD j.val = if j = e.line then false else s.classifier.lockouts.getLsbD j.val) ∧
       (∀ j : LineNo, levels.getLsbD j.val =
         if j = e.line then e.releaseLevel == .high else s.classifier.levels.getLsbD j.val) ∧
       let off := offer ⟨.chatterOff e.line e.lockLevel e.releaseLevel rule.cls, some e.stamp,
           ⟨false, false, false, e.wasHeld, false⟩⟩
         { taken with classifier := { s.classifier with lockouts := lockouts } };
       let differs := s.classifier.levels.getLsbD e.line.val ≠ (e.releaseLevel == .high);
       let selected := rule.edges = .both ∨ (rule.edges = .rising ∧ e.releaseLevel = .high) ∨
         (rule.edges = .falling ∧ e.releaseLevel = .low);
       let h : EntryInHand := ⟨⟨e.line, e.releaseLevel, e.stamp, e.uptime, e.wasHeld, true⟩, rule, [.lineChange],
         false⟩;
       (¬differs → exec .classifierTakeEntry s = .next off) ∧
       (differs → ¬selected → exec .classifierTakeEntry s =
         .next { off with classifier := { off.classifier with levels := levels } }) ∧
       (differs → selected → exec .classifierTakeEntry s =
         .next { off with classifier := { off.classifier with levels := levels, inHand := some (.entry h) } }))

/-- CLASSIFIER_TAKE_ENTRY with an entry in hand builds the next of its records, on the journal as other events have left
it since the one before (R4, R49, R113): the LINE_CHANGE of a release, with the incident call before it, an
INCIDENT_CLOSE that a call answered, or CHATTER_ON, with the line's lockout flag. The entry leaves the hand with its last
record, and until then it stays in hand (R113, R115 to R117; one record a command is the model's choice, log 16). -/
def Obligations.EntryInHandIsCarriedOn : Prop :=
  ∀ (s : State) (h : EntryInHand) (r : RecordToBuild) (rest : List RecordToBuild),
    s.classifier.inHand = some (.entry h) → h.left = r :: rest →
    let x := h.edge;
    let u : State := { s with classifier := { s.classifier with inHand := none } };
    let keep : List RecordToBuild → Bool → Option InHand := fun left called =>
      if left = [] then none else some (.entry { h with left := left, called := called });
    (r = .lineChange →
      let called : State × CallAnswer := match h.rule.group with
        | some g => if h.rule.role = .none then (u, ⟨none, false, none⟩)
          else incidentCall ⟨x.line, g, h.rule.role, h.rule.cls, x.stamp, x.uptime⟩ u
        | none => (u, ⟨none, false, none⟩);
      let changed := offer ⟨.lineChange x.line x.level h.rule.cls called.2.id, some x.stamp,
        ⟨h.rule.alert, called.2.opened, x.afterChatter, x.wasHeld, false⟩⟩ called.1;
      let left : List RecordToBuild := (match called.2.closed with
        | some c => [.incidentClose c]
        | none => []) ++ rest;
      exec .classifierTakeEntry s = .next { changed with classifier := { u.classifier with
        inHand := keep left (h.rule.group.isSome && decide (h.rule.role ≠ .none)) } }) ∧
    (∀ c, r = .incidentClose c → exec .classifierTakeEntry s =
      .next { offer ⟨.incidentClose c, none, ⟨false, false, false, false, false⟩⟩ u with
        classifier := { u.classifier with inHand := keep rest h.called } }) ∧
    (∀ n, r = .chatterOn n → ∃ lockouts, exec .classifierTakeEntry s =
        .next { offer ⟨.chatterOn x.line x.level n h.rule.cls, some x.stamp,
            ⟨false, false, false, x.wasHeld, false⟩⟩ u with
          classifier := { u.classifier with lockouts := lockouts, inHand := keep rest h.called } } ∧
      ∀ j : LineNo, lockouts.getLsbD j.val = if j = x.line then true else s.classifier.lockouts.getLsbD j.val)

/-- A SNAPSHOT_MARKER yields a SNAPSHOT record at once, or, while a line awaits priming, stays in hand until
DEFERRED_SNAPSHOT_BUILD; while it is in hand the classifier takes nothing, and an empty FIFO gives nothing (R113,
R118). Held entries are admitted to the place it leaves (log 17). -/
def Obligations.SnapshotIsBuiltOrDeferred : Prop :=
  ∀ (s : State),
    let built : Port → LineSet → State → State := fun p offSet t =>
      offer ⟨.snapshot t.classifier.levels t.classifier.lockouts offSet p, none,
        ⟨false, false, false, false, false⟩⟩ t;
    ((∃ m, s.classifier.inHand = some (.marker m)) → exec .classifierTakeEntry s = .next s) ∧
    (s.classifier.inHand = none → s.fifo = [] → exec .classifierTakeEntry s = .next s) ∧
    (∀ p rest, s.classifier.inHand = none → s.fifo = .marker p :: rest →
      let taken := admitHeld { s with fifo := rest };
      ∃ offSet : LineSet,
        (∀ i : LineNo, offSet.getLsbD i.val = (s.rules.active.lines[i].mode == .off)) ∧
        (s.classifier.awaiting = 0 → exec .classifierTakeEntry s = .next (built p offSet taken)) ∧
        (s.classifier.awaiting ≠ 0 → exec .classifierTakeEntry s =
          .next { taken with classifier := { s.classifier with inHand := some (.marker ⟨p, offSet⟩) } })) ∧
    (((∀ m, s.classifier.inHand ≠ some (.marker m)) ∨ s.classifier.awaiting ≠ 0) →
      exec .deferredSnapshotBuild s = .next s) ∧
    (∀ m, s.classifier.inHand = some (.marker m) → s.classifier.awaiting = 0 → exec .deferredSnapshotBuild s =
      .next (built m.port m.offSet { s with classifier := { s.classifier with inHand := none } }))

/-! ### The time base (R88 to R101) -/

/-- A SYNC edge that is no pulse changes nothing: SYNC off, the wrong direction, UNSET, or a pulse taken less than 500
ms before (R94). A pulse taken leaves the time base of the quality in force, then offers TIME_STEP for a correction
that calls for one and QUALITY_CHANGE for a change of the quality; leaving LOCKED raises TIME_DEGRADED (R90, R95, R96,
R97, R99). That the time base changes before the records are offered is the model's reading (log 11). The two reports:
TIME_STEP for a nonzero correction at or above the step threshold (any nonzero one with threshold 0), QUALITY_CHANGE
for a quality that differs from the old one, and TIME_DEGRADED on leaving LOCKED (R90, R95), raised after the record is
offered (the model's order, log 30). -/
def Obligations.PulseMovesTimeBase : Prop :=
  (∀ (edge : SyncEdge) (s : State),
     let c := s.clock;
     let pulse := c.options.syncEnable = true ∧ edge = c.options.syncEdge ∧ c.quality ≠ .unset ∧
       ∀ u, c.lastPulse = some u → 500000 ≤ (c.uptime - u).toNat;
     (¬pulse → exec (.syncEdge edge) s = .next s) ∧
     (pulse → ∃ (after : TimeBase) (step : Option Int), exec (.syncEdge edge) s =
         .next (reportQuality c.quality (reportStep step { s with clock := after })) ∧
       let error : Int := if c.timeOfDay.micros.val < 500000 then c.timeOfDay.micros.val
         else (c.timeOfDay.micros.val : Int) - 1000000;
       let good := error.natAbs ≤ c.options.windowUs;
       let whole : BitVec 32 := if c.timeOfDay.micros.val < 500000 then c.timeOfDay.seconds else c.timeOfDay.seconds + 1;
       let taken : TimeBase := { c with lastPulse := some c.uptime };
       let corrected : TimeBase := { taken with timeOfDay := ⟨whole, 0⟩, lastCorrection := some (-error) };
       let timer : Uptime := c.uptime + 1500000;
       let locked : TimeBase := { corrected with
         quality := .locked, goodCount := 0, outlierCount := 0, holdover := none, missingPulse := some timer };
       let fellFree : TimeBase := { corrected with quality := .free, outlierCount := 0, missingPulse := none };
       (c.quality = .free → step = some (-error) ∧
         (¬good → after = { corrected with goodCount := 0 }) ∧
         (good → c.goodCount < 2 → after = { corrected with goodCount := c.goodCount + 1 }) ∧
         (good → 2 ≤ c.goodCount → after = locked)) ∧
       (c.quality = .locked →
         (good → step = some (-error) ∧ after = { corrected with outlierCount := 0, missingPulse := some timer }) ∧
         (¬good → c.outlierCount < 2 → step = none ∧
           after = { taken with outlierCount := c.outlierCount + 1, missingPulse := some timer }) ∧
         (¬good → 2 ≤ c.outlierCount → step = some (-error) ∧ after = { fellFree with goodCount := 0 })) ∧
       (c.quality = .holdover → step = some (-error) ∧ (good → after = locked) ∧
         (¬good → after = { corrected with quality := .free, goodCount := 0, holdover := none })))) ∧
  (∀ (s : State),
     (reportStep none s = s) ∧
     (∀ x : Int,
       ((x = 0 ∧ s.clock.options.stepThresholdUs = 0) ∨ x.natAbs < s.clock.options.stepThresholdUs →
         reportStep (some x) s = s) ∧
       (x ≠ 0 → s.clock.options.stepThresholdUs ≤ x.natAbs →
         reportStep (some x) s = offer ⟨.timeStep x, none, ⟨false, false, false, false, false⟩⟩ s)) ∧
     (∀ old : Quality,
       let changed := offer ⟨.qualityChange old s.clock.quality, none, ⟨false, false, false, false, false⟩⟩ s;
       (old = s.clock.quality → reportQuality old s = s) ∧
       (old ≠ s.clock.quality → old ≠ .locked → reportQuality old s = changed) ∧
       (old ≠ s.clock.quality → old = .locked → reportQuality old s = raise .timeDegraded .none changed)))

/-- MISSING_PULSE_TIMER_EXPIRY makes LOCKED time HOLDOVER and starts the holdover timer from the expiry, which for one
taken late is when it is taken (log 31); HOLDOVER_TIMER_EXPIRY makes it FREE. Before its deadline, or in another
quality, each changes nothing (R90, R98, R99). -/
def Obligations.TimeTimersExpire : Prop :=
  ∀ (s : State),
    let c := s.clock;
    (∀ d, c.missingPulse = some d → c.quality = .locked → reached c.uptime d = true →
      exec .missingPulseTimerExpiry s = .next (reportQuality .locked { s with clock := { c with
        quality := .holdover
        goodCount := 0
        outlierCount := 0
        missingPulse := none
        holdover := some ⟨c.uptime, c.uptime + BitVec.ofNat 48 (c.options.holdoverLimitS * 1000000)⟩ } })) ∧
    ((c.quality ≠ .locked ∨ ∀ d, c.missingPulse = some d → reached c.uptime d = false) →
      exec .missingPulseTimerExpiry s = .next s) ∧
    (∀ h, c.holdover = some h → c.quality = .holdover → reached c.uptime h.deadline = true →
      exec .holdoverTimerExpiry s = .next (reportQuality .holdover
        { s with clock := { c with quality := .free, holdover := none } })) ∧
    ((c.quality ≠ .holdover ∨ ∀ h, c.holdover = some h → reached c.uptime h.deadline = false) →
      exec .holdoverTimerExpiry s = .next s)

/-- SET_TIME from the claimant: microseconds above 999,999 are BAD_VALUE; else the time is FREE at the new time of day
with counts 0 and its timers stopped, TIME_SET is offered, then QUALITY_CHANGE if the quality changed (R90, R91).
SET_TIME_OPTIONS from the claimant: options out of range are BAD_VALUE, SYNC turned on while line 31 is in CAPTURE in
either bank is SYNC_CONFLICT, and else all five are written together; SYNC turned on forgets the pulses, SYNC turned
off also stops the timers and makes LOCKED or HOLDOVER time FREE, and a new holdover limit counts from the uptime at
which HOLDOVER was entered and, where its deadline has then passed, expires straight away: the time is FREE (R92, R93,
R99). A validation in progress notes the SYNC value (log 12). -/
def Obligations.TimeAndOptionsAreSet : Prop :=
  (∀ (p : Port) (s : State) (q : Request) (seconds : BitVec 32) (micros : BitVec 24), Ready s p .setTime q →
     s.holdsClaim p = true → q.payload = beBytes 4 seconds.toNat ++ beBytes 3 micros.toNat →
     let u := s.putInHand p;
     (1000000 ≤ micros.toNat → exec (.setTime p) s = .next (u.replied p q .badValue .none)) ∧
     (∀ m : Fin 1000000, m.val = micros.toNat → exec (.setTime p) s = .next ((reportQuality s.clock.quality
       (offer ⟨.timeSet s.clock.timeOfDay ⟨seconds, m⟩ s.clock.quality, none, ⟨false, false, false, false, false⟩⟩
         { u with clock := { s.clock with
           timeOfDay := ⟨seconds, m⟩
           quality := .free
           goodCount := 0
           outlierCount := 0
           missingPulse := none
           holdover := none } })).replied p q .ok .none))) ∧
  (∀ (p : Port) (s : State) (q : Request), Ready s p .setTimeOptions q → s.holdsClaim p = true →
     let u := s.putInHand p;
     let c := s.clock;
     let conflict : TimeOptions → Prop := fun o => o.syncEnable = true ∧ c.options.syncEnable = false ∧
       (s.rules.active.lines[31].mode = .capture ∨ s.rules.staged.lines[31].mode = .capture);
     (timeOptionsOf q.payload = none → exec (.setTimeOptions p) s = .next (u.replied p q .badValue .none)) ∧
     (∀ o, timeOptionsOf q.payload = some o →
       (conflict o → exec (.setTimeOptions p) s = .next (u.replied p q .syncConflict .none)) ∧
       (¬conflict o → ∃ after : TimeBase, exec (.setTimeOptions p) s = .next ((reportQuality c.quality { u with
           clock := after
           switch := { s.switch with phase := match s.switch.phase with
             | .validating on off => .validating (on || o.syncEnable) (off || !o.syncEnable)
             | x => x } }).replied p q .ok .none) ∧
         let timer : Option HoldoverTimer := if o.holdoverLimitS = c.options.holdoverLimitS then c.holdover
           else c.holdover.map fun h =>
             ⟨h.entered, h.entered + BitVec.ofNat 48 (o.holdoverLimitS * 1000000)⟩;
         let lapses := o.holdoverLimitS ≠ c.options.holdoverLimitS ∧ c.quality = .holdover ∧
           ∃ h, timer = some h ∧ reached c.uptime h.deadline = true;
         ∀ limited : TimeBase, ((lapses ∧ limited = { c with options := o, holdover := none, quality := .free }) ∨
             (¬lapses ∧ limited = { c with options := o, holdover := timer })) →
           (o.syncEnable = c.options.syncEnable → after = limited) ∧
           (c.options.syncEnable = false → o.syncEnable = true → after = { limited with
             goodCount := 0, outlierCount := 0, lastPulse := none, lastCorrection := none }) ∧
           (c.options.syncEnable = true → o.syncEnable = false → after = { limited with
             holdover := none, missingPulse := none
             goodCount := 0, outlierCount := 0, lastPulse := none, lastCorrection := none
             quality := if c.quality = .unset then .unset else .free }))))

/-! ### The rule store (R105 to R110) -/

/-- The staged-editing requests from the claimant: fields out of range are BAD_VALUE, a switch in progress is BUSY,
and else the STAGED bank alone takes the entry, or the ACTIVE bank whole (R107, R108, R109). -/
def Obligations.StagedBankIsEdited : Prop :=
  ∀ (p : Port) (s : State) (q : Request), s.holdsClaim p = true →
    let u := s.putInHand p;
    let refused : Status → Result := fun status => .next (u.replied p q status .none);
    let edited : Bank → Result := fun b =>
      .next ({ u with rules := { s.rules with staged := b } }.replied p q .ok .none);
    let idle := s.switch.phase = .idle;
    (∀ b bs, Ready s p .writeLineRule q → q.payload = b :: bs →
      ((32 ≤ b.toNat ∨ lineRuleOf bs = none) → exec (.writeLineRule p) s = refused .badValue) ∧
      (∀ (i : LineNo) r, i.val = b.toNat → lineRuleOf bs = some r →
        (idle → exec (.writeLineRule p) s = edited { s.rules.staged with lines := s.rules.staged.lines.set i r }) ∧
        (¬idle → exec (.writeLineRule p) s = refused .busy))) ∧
    (∀ b bs, Ready s p .writeGroupRule q → q.payload = b :: bs →
      ((16 ≤ b.toNat ∨ groupRuleOf bs = none) → exec (.writeGroupRule p) s = refused .badValue) ∧
      (∀ (g : GroupNo) r, g.val = b.toNat → groupRuleOf bs = some r →
        (idle → exec (.writeGroupRule p) s = edited { s.rules.staged with groups := s.rules.staged.groups.set g r }) ∧
        (¬idle → exec (.writeGroupRule p) s = refused .busy))) ∧
    (∀ hi lo, Ready s p .writeGlobalRule q → q.payload = [hi, lo] →
      (∀ period : SamplePeriod, hi.toNat * 256 + lo.toNat = period.micros →
        (idle → exec (.writeGlobalRule p) s = edited { s.rules.staged with period := period }) ∧
        (¬idle → exec (.writeGlobalRule p) s = refused .busy)) ∧
      ((∀ period : SamplePeriod, hi.toNat * 256 + lo.toNat ≠ period.micros) →
        exec (.writeGlobalRule p) s = refused .badValue)) ∧
    (Ready s p .copyActiveToStaged q →
      (idle → exec (.copyActiveToStaged p) s = edited s.rules.active) ∧
      (¬idle → exec (.copyActiveToStaged p) s = refused .busy))

/-- The entries of Table 10-3 as bytes and back: each line entry, group entry, sample period, time options block and
time of day in range is read from its bytes as itself, and whatever 13, 7, 2, 8 or 7 bytes are read as an entry in
range are its bytes (R106 to R108, R170). -/
def Obligations.EntriesRoundTrip : Prop :=
  (∀ r : LineRule, r.inRange → lineRuleOf (lineRuleBytes r) = some r) ∧
  (∀ r : GroupRule, r.inRange → groupRuleOf (groupRuleBytes r) = some r) ∧
  (∀ x : SamplePeriod, writeGlobalRuleOf (globalRuleBytes x) = some x) ∧
  (∀ o : TimeOptions, o.inRange → timeOptionsOf (timeOptionsBytes o) = some o) ∧
  (∀ t : TimeOfDay, timeOfDayOf (timeBytes t) = some t) ∧
  (∀ bs r, bs.length = 13 → lineRuleOf bs = some r → r.inRange ∧ lineRuleBytes r = bs) ∧
  (∀ bs r, bs.length = 7 → groupRuleOf bs = some r → r.inRange ∧ groupRuleBytes r = bs) ∧
  (∀ bs x, bs.length = 2 → writeGlobalRuleOf bs = some x → globalRuleBytes x = bs) ∧
  (∀ bs o, bs.length = 8 → timeOptionsOf bs = some o → o.inRange ∧ timeOptionsBytes o = bs) ∧
  (∀ bs t, bs.length = 7 → timeOfDayOf bs = some t → timeBytes t = bs)

/-! ### Switching (R122 to R134) -/

/-- SWITCH_RULES and ABORT_SWITCH from the claimant: a switch begins VALIDATING with the requester named, or is BUSY;
one VALIDATING is aborted, with SWITCH_DONE offered to its requester's open session, one DRAINING is TOO_LATE, and
none is NOT_IN_PROGRESS (R123, R133, R134). That VALIDATING notes the SYNC values in force is the model's (log 12), and
so is that SWITCH_DONE is queued ahead of the ABORT_SWITCH reply (log 26). -/
def Obligations.SwitchIsRequestedAndAborted : Prop :=
  ∀ (p : Port) (s : State) (q : Request) (ses : Session), (s.ports.get p).session = some ses →
    s.holdsClaim p = true →
    let u := s.putInHand p;
    let on := s.clock.options.syncEnable;
    (Ready s p .switchRules q →
      (s.switch.phase = .idle → exec (.switchRules p) s = .next ({ u with
        switch := ⟨.validating on !on, some ⟨p, ses.number⟩, s.switch.outcome⟩ }.replied p q .accepted .none)) ∧
      (s.switch.phase ≠ .idle → exec (.switchRules p) s = .next (u.replied p q .busy .none))) ∧
    (Ready s p .abortSwitch q →
      (s.switch.phase = .idle → exec (.abortSwitch p) s = .next (u.replied p q .notInProgress .none)) ∧
      (s.switch.phase = .draining → exec (.abortSwitch p) s = .next (u.replied p q .tooLate .none)) ∧
      (∀ x y, s.switch.phase = .validating x y →
        let aborted : State := { u with switch := ⟨.idle, s.switch.requester, .aborted⟩ };
        (∀ h requester, s.switch.requester = some h → (s.ports.get h.port).session = some requester →
          requester.number = h.session → exec (.abortSwitch p) s = .next ((aborted.setPort h.port
            { aborted.ports.get h.port with
              waiting := (aborted.ports.get h.port).waiting ++ [.switchDone .aborted] }).replied p q .ok .none)) ∧
        ((∀ h requester, s.switch.requester = some h → (s.ports.get h.port).session = some requester →
            requester.number ≠ h.session) →
          exec (.abortSwitch p) s = .next (aborted.replied p q .ok .none))))

/-- The walk of validation over a bank: lines in ascending order, then the groups that some line names, to the first
failing check of Table 7-3, in the table's order (R124, R125). VALIDATION_COMPLETION: a STAGED bank with a fault ends
the switch REJECTED with its details, raises SWITCH_REJECTED and offers SWITCH_DONE to the requester's open session;
one without lets the switch drain. Outside VALIDATING nothing happens. The SYNC value read is the named one if it was
in force during the validation (R124, R126, R127, R134; log 12). -/
def Obligations.ValidationJudgesStagedBank : Prop :=
  (∀ (b : Bank) (syncOn : Bool),
     let unrouted : LineNo → Prop := fun i => b.lines[i].role ≠ .none ∧ b.lines[i].group = none;
     let conflicts : LineNo → Prop := fun i => i = 31 ∧ b.lines[i].mode = .capture ∧ syncOn = true;
     let unreachable : LineNo → Prop := fun i => 2 ≤ b.lines[i].chatterLimit ∧ b.lines[i].chatterWindowMs * 1000 <
       b.lines[i].chatterLimit * b.lines[i].debounce * b.period.micros;
     let lineOk : LineNo → Prop := fun i => ¬unrouted i ∧ ¬conflicts i ∧ ¬unreachable i;
     let named : GroupNo → Prop := fun g => ∃ i : LineNo, b.lines[i].group = some g;
     let neverOpens : GroupNo → Prop := fun g =>
       (∃ i : LineNo, b.lines[i].group = some g ∧ (b.lines[i].role = .joinOnly ∨ b.lines[i].role = .close)) ∧
         ¬∃ i : LineNo, b.lines[i].group = some g ∧ b.lines[i].role = .openOrJoin;
     let tooShort : GroupNo → Prop := fun g =>
       b.groups[g].maxDurationMs ≠ 0 ∧ b.groups[g].maxDurationMs < b.groups[g].settleMs;
     let groupOk : GroupNo → Prop := fun g => named g → ¬neverOpens g ∧ ¬tooShort g;
     (∀ i, (∀ j < i, lineOk j) →
       (unrouted i → validate b syncOn = some ⟨.line, i.val, .roleWithoutGroup⟩) ∧
       (¬unrouted i → conflicts i → validate b syncOn = some ⟨.line, i.val, .syncConflict⟩) ∧
       (¬unrouted i → ¬conflicts i → unreachable i →
         validate b syncOn = some ⟨.line, i.val, .chatterUnreachable⟩)) ∧
     ((∀ i, lineOk i) →
       (∀ g, (∀ j < g, groupOk j) → named g →
         (neverOpens g → validate b syncOn = some ⟨.group, g.val, .groupNeverOpens⟩) ∧
         (¬neverOpens g → tooShort g → validate b syncOn = some ⟨.group, g.val, .durationBelowSettle⟩)) ∧
       ((∀ g, groupOk g) → validate b syncOn = none))) ∧
  (∀ (syncRead : Bool) (s : State),
     ((s.switch.phase = .idle ∨ s.switch.phase = .draining) → exec (.validationCompletion syncRead) s = .next s) ∧
     (∀ on off, s.switch.phase = .validating on off →
       let sync := if (syncRead = true ∧ on = true) ∨ (syncRead = false ∧ off = true) then syncRead
         else s.clock.options.syncEnable;
       (validate s.rules.staged sync = none → exec (.validationCompletion syncRead) s =
         .next { s with switch := { s.switch with phase := .draining } }) ∧
       (∀ fault, validate s.rules.staged sync = some fault →
         let t := raise .switchRejected .none { s with switch := ⟨.idle, s.switch.requester, .rejected fault⟩ };
         (∀ h requester, s.switch.requester = some h → (s.ports.get h.port).session = some requester →
           requester.number = h.session → exec (.validationCompletion syncRead) s = .next (t.setPort h.port
             { t.ports.get h.port with waiting := (t.ports.get h.port).waiting ++ [.switchDone (.rejected fault)] })) ∧
         ((∀ h requester, s.switch.requester = some h → (s.ports.get h.port).session = some requester →
             requester.number ≠ h.session) → exec (.validationCompletion syncRead) s = .next t))))

/-- The switch instant: open incidents close RULESET in slot order, RULESET_SWITCH is appended, the ACTIVE bank takes
the STAGED entries and the generation advances, each line whose mode changed is off and forgotten, a new sample period
counts from now, the classifier's flags follow the modes, the switch ends SWITCHED with SWITCH_DONE offered, and the
held entries of the lines that stay are admitted (R62, R82 to R85, R112, R119, R130, R131, R134). SWITCH_INSTANT
happens only DRAINING, with the FIFO empty and no entry in the classifier's hand (R129). -/
def Obligations.SwitchInstantInstallsStaged : Prop :=
  (∀ s : State, s.switch.phase = .draining → s.fifo = [] → s.classifier.inHand = none →
     let old := s.rules.active;
     let new := s.rules.staged;
     let generation : Generation := if s.rules.generation = 65535 then 1 else s.rules.generation + 1;
     let slots : List SlotNo := (List.finRange 8).filter fun i => s.incidents.slots[i].isSome;
     let closed : State := (List.finRange 8).foldl (fun t (i : SlotNo) => match s.incidents.slots[i] with
       | some x => offer ⟨.incidentClose (closeBody .ruleset s.clock.uptime x), none,
           ⟨false, false, false, false, false⟩⟩
         { t with incidents := { t.incidents with slots := t.incidents.slots.set i none } }
       | none => t) s;
     let appended := append ⟨.rulesetSwitch s.rules.generation generation slots.length, none,
       ⟨false, false, false, false, false⟩⟩ closed;
     let outcome : SwitchOutcome := .switched ⟨s.rules.generation, generation, slots.length, appended.2⟩;
     let same : LineNo → Bool := fun i => decide (old.lines[i].mode = new.lines[i].mode);
     ∃ (lines : Vector Line 32) (lockouts awaiting : LineSet) (ports : PerPort PortState),
       exec .switchInstant s = .next { appended.1 with
         rules := ⟨new, new, generation⟩
         switch := ⟨.idle, s.switch.requester, outcome⟩
         lines := lines
         fifo := ((List.finRange 32).filter same).filterMap fun i => s.lines[i].held.map .front
         nextSample := if old.period = new.period then s.nextSample
           else s.clock.uptime + BitVec.ofNat 48 new.period.micros
         classifier := ⟨s.classifier.levels, lockouts, awaiting, none⟩
         ports := ports } ∧
       (∀ i : LineNo,
         (same i = false → lines[i] = { s.lines[i] with
           phase := .off, chatterCount := 0, window := none, release := none, held := none }) ∧
         (same i = true → s.lines[i].held = none → lines[i] = s.lines[i]) ∧
         (same i = true → s.lines[i].held ≠ none → lines[i] = { s.lines[i] with
           held := none
           release := match s.lines[i].phase with
             | .lockedOut _ => some (s.clock.uptime + BitVec.ofNat 48 (new.lines[i].chatterReleaseMs * 1000))
             | _ => s.lines[i].release }) ∧
         lockouts.getLsbD i.val = (same i && s.classifier.lockouts.getLsbD i.val) ∧
         awaiting.getLsbD i.val = if same i then s.classifier.awaiting.getLsbD i.val
           else new.lines[i].mode == .capture) ∧
       (∀ h ses, s.switch.requester = some h → (s.ports.get h.port).session = some ses → ses.number = h.session →
         ports = appended.1.ports.set h.port { appended.1.ports.get h.port with
           waiting := (appended.1.ports.get h.port).waiting ++ [.switchDone outcome] }) ∧
       ((∀ h ses, s.switch.requester = some h → (s.ports.get h.port).session = some ses → ses.number ≠ h.session) →
         ports = appended.1.ports)) ∧
  (∀ s : State, (s.switch.phase ≠ .draining ∨ s.fifo ≠ [] ∨ s.classifier.inHand ≠ none) →
     exec .switchInstant s = .next s)

/-! ### What every step keeps -/

/-- The journal holds at most 2,048 consecutive records; it holds an open marker exactly when it is full in HALT mode,
and then as its newest record (R1, R5, R15 to R18). -/
def Obligations.StepKeepsJournal : Prop :=
  ∀ s t : State, s.journal.Ok → step s = .next t → t.journal.Ok

/-- nALERT is low exactly while an alert is pending, the exception table keeps one slot for each kind and subject, with
its count in 1 to 65,535, a session with notices on never has its notice-pending flag set, and the flag is set, and a
NOTICE waits, only while the table is not empty (R138, R139, R145, R147, R148). -/
def Obligations.StepKeepsReporting : Prop :=
  ∀ s t : State, s.exceptions.Ok → s.alert.nAlertLow = s.alert.pending → s.NoticesOk → step s = .next t →
    t.exceptions.Ok ∧ t.alert.nAlertLow = t.alert.pending ∧ t.NoticesOk

/-- The event FIFO, the request queues and the transmit queues keep their capacities: on each port at most four ALERT
frames, one NOTICE, one RECORDS, one GAP and one QUEUE_FULL reply wait, and one session-layer reply exactly while a
request is in hand. The claim is free or held by an open session (R30, R42, R75, R141, R147, R156, R157, R159, R165). -/
def Obligations.StepKeepsQueuesAndClaim : Prop :=
  ∀ s t : State, s.QueuesOk → s.ClaimOk → step s = .next t → t.QueuesOk ∧ t.ClaimOk

/-- Both banks keep every entry in range, and open incidents have one group each and fewer members than the limit at
which they close (R46, R53, R105). An entry in the classifier's hand keeps the ACTIVE line entry it is classified under
and has records left to build, an INCIDENT_CLOSE among them only during its call's action (R49, R113). -/
def Obligations.StepKeepsRules : Prop :=
  (∀ s t : State, s.RulesOk → step s = .next t → t.RulesOk) ∧
  (∀ s t : State, s.InHandOk → step s = .next t → t.InHandOk)

/-- The time quality, its two timers and its counts keep together: LOCKED and HOLDOVER only with SYNC on, each with
its timer, and the counts below the values at which the quality changes (R90, R93, R96 to R99). -/
def Obligations.StepKeepsTimeBase : Prop :=
  ∀ s t : State, s.clock.Ok → step s = .next t → t.clock.Ok

/-- With the journal in order, every reader keeps its window, timeout and retry count in range, its timer to the ACTIVE
state with records in flight, and DORMANT to retaining readers (R28, R31, R33, R36). Its points keep to R26: the records
in flight are at most the window, the ack point lies below the send point, the send point is a held record or the next
number, the ack point is no lower than just below the oldest held record, and both lie within the band of R2. RECORDS
and GAP frames wait only for a reader that is ACTIVE or STALLED (R36, R39, R42). -/
def Obligations.StepKeepsReaders : Prop :=
  ∀ s t : State, s.journal.Ok → s.ReadersOk → step s = .next t → t.ReadersOk

/-- Every step keeps the lines: a line in mode OFF is OFF and holds nothing, an occupied held slot stands only in IDLE
or LOCKED_OUT and keeps the release timer stopped, and line 31 is OFF, in its state and in the ACTIVE bank, while SYNC
is on (R71, R72, R78, R85, R86, R92). A held entry waits only while the FIFO is full or a switch is DRAINING (R78, R79;
a take that makes room admits held entries in its own step, log 17). -/
def Obligations.StepKeepsFrontEnd : Prop :=
  (∀ s t : State, s.LinesOk → step s = .next t → t.LinesOk) ∧
  (∀ s t : State, s.HeldOk → step s = .next t → t.HeldOk)

/-- The ACTIVE bank and the generation change only at the switch instant or a reset, and while a switch is in progress
nothing else changes the STAGED bank (R105, R107, R112, R122). -/
def Obligations.RulesChangeAtSwitchInstantAlone : Prop :=
  ∀ (c : Instr) (s t : State), exec c s = .next t → c ≠ .switchInstant → Instr.mayReset c = false →
    t.rules.active = s.rules.active ∧ t.rules.generation = s.rules.generation ∧
      (s.switch.phase ≠ .idle → t.rules.staged = s.rules.staged)

/-- Without a reset, no command moves the uptime (the model's choice, log 4: only the tick does), and only SYNC_EDGE
and SET_TIME move the time of day (R88, R89, R91, R95). -/
def Obligations.TimeMovesByItsCommandsAlone : Prop :=
  ∀ (c : Instr) (s t : State), exec c s = .next t → Instr.mayReset c = false →
    t.clock.uptime = s.clock.uptime ∧
      ((∀ edge, c ≠ .syncEdge edge) → (∀ p, c ≠ .setTime p) → t.clock.timeOfDay = s.clock.timeOfDay)

/-- Without a reset, a pending alert stays pending until CLEAR_ALERT, and an occupied exception slot keeps its kind
and subject until CLEAR_EXCEPTION (R139, R142, R145, R150). -/
def Obligations.ReportsStayUntilCleared : Prop :=
  ∀ (c : Instr) (s t : State), exec c s = .next t → Instr.mayReset c = false →
    ((∀ p, c ≠ .clearAlert p) → s.alert.pending = true → t.alert.pending = true) ∧
    ((∀ p, c ≠ .clearException p) → ∀ (i : SlotNo) (e : ExceptionSlot), s.exceptions.slots[i] = some e →
      ∃ e', t.exceptions.slots[i] = some e' ∧ e'.kind = e.kind ∧ e'.subject = e.subject ∧ e'.first = e.first)
end

