-- ==== Sys2Proof/Laws/State.lean ====
section
/-!
SUPPORT. One lemma per field per update of State, so that no later proof unfolds a record update.
-/
namespace Sys2Proof.Machine

/-! ### PerPort -/

@[simp] theorem PerPort.get_a {α : Type} (v : PerPort α) : v.get .a = v.a := rfl
@[simp] theorem PerPort.get_b {α : Type} (v : PerPort α) : v.get .b = v.b := rfl
@[simp] theorem PerPort.set_a {α : Type} (v : PerPort α) (x : α) : v.set .a x = ⟨x, v.b⟩ := rfl
@[simp] theorem PerPort.set_b {α : Type} (v : PerPort α) (x : α) : v.set .b x = ⟨v.a, x⟩ := rfl

@[simp] theorem PerPort.get_set_self {α : Type} (v : PerPort α) (p : Port) (x : α) : (v.set p x).get p = x := by
  cases p <;> rfl

theorem PerPort.get_set_ne {α : Type} (v : PerPort α) {p q : Port} (h : q ≠ p) (x : α) :
    (v.set p x).get q = v.get q := by
  cases p <;> cases q <;> first | rfl | exact absurd rfl h

theorem PerPort.get_set {α : Type} (v : PerPort α) (p q : Port) (x : α) :
    (v.set p x).get q = if q = p then x else v.get q := by
  cases p <;> cases q <;> rfl

@[simp] theorem PerPort.set_get_self {α : Type} (v : PerPort α) (p : Port) : v.set p (v.get p) = v := by
  cases p <;> rfl

@[simp] theorem PerPort.set_set {α : Type} (v : PerPort α) (p : Port) (x y : α) : (v.set p x).set p y = v.set p y := by
  cases p <;> rfl

/-! ### Updates of one part of the state -/

@[simp] theorem State.setPort_pending (s : State) (p : Port) (x : PortState) : (s.setPort p x).pending = s.pending := rfl
@[simp] theorem State.setPort_clock (s : State) (p : Port) (x : PortState) : (s.setPort p x).clock = s.clock := rfl
@[simp] theorem State.setPort_lines (s : State) (p : Port) (x : PortState) : (s.setPort p x).lines = s.lines := rfl
@[simp] theorem State.setPort_nextSample (s : State) (p : Port) (x : PortState) : (s.setPort p x).nextSample = s.nextSample := rfl
@[simp] theorem State.setPort_fifo (s : State) (p : Port) (x : PortState) : (s.setPort p x).fifo = s.fifo := rfl
@[simp] theorem State.setPort_rules (s : State) (p : Port) (x : PortState) : (s.setPort p x).rules = s.rules := rfl
@[simp] theorem State.setPort_switch (s : State) (p : Port) (x : PortState) : (s.setPort p x).switch = s.switch := rfl
@[simp] theorem State.setPort_classifier (s : State) (p : Port) (x : PortState) : (s.setPort p x).classifier = s.classifier := rfl
@[simp] theorem State.setPort_incidents (s : State) (p : Port) (x : PortState) : (s.setPort p x).incidents = s.incidents := rfl
@[simp] theorem State.setPort_journal (s : State) (p : Port) (x : PortState) : (s.setPort p x).journal = s.journal := rfl
@[simp] theorem State.setPort_readers (s : State) (p : Port) (x : PortState) : (s.setPort p x).readers = s.readers := rfl
@[simp] theorem State.setPort_alert (s : State) (p : Port) (x : PortState) : (s.setPort p x).alert = s.alert := rfl
@[simp] theorem State.setPort_exceptions (s : State) (p : Port) (x : PortState) : (s.setPort p x).exceptions = s.exceptions := rfl
@[simp] theorem State.setPort_rate (s : State) (p : Port) (x : PortState) : (s.setPort p x).rate = s.rate := rfl
@[simp] theorem State.setPort_spi (s : State) (p : Port) (x : PortState) : (s.setPort p x).spi = s.spi := rfl
@[simp] theorem State.setPort_claim (s : State) (p : Port) (x : PortState) : (s.setPort p x).claim = s.claim := rfl
@[simp] theorem State.setPort_restart (s : State) (p : Port) (x : PortState) : (s.setPort p x).restart = s.restart := rfl
@[simp] theorem State.setPort_resetCause (s : State) (p : Port) (x : PortState) : (s.setPort p x).resetCause = s.resetCause := rfl

@[simp] theorem State.setPort_ports (s : State) (p : Port) (x : PortState) : (s.setPort p x).ports = s.ports.set p x := rfl

@[simp] theorem State.setReader_pending (s : State) (p : Port) (x : Option Subscription) : (s.setReader p x).pending = s.pending := rfl
@[simp] theorem State.setReader_clock (s : State) (p : Port) (x : Option Subscription) : (s.setReader p x).clock = s.clock := rfl
@[simp] theorem State.setReader_lines (s : State) (p : Port) (x : Option Subscription) : (s.setReader p x).lines = s.lines := rfl
@[simp] theorem State.setReader_nextSample (s : State) (p : Port) (x : Option Subscription) : (s.setReader p x).nextSample = s.nextSample := rfl
@[simp] theorem State.setReader_fifo (s : State) (p : Port) (x : Option Subscription) : (s.setReader p x).fifo = s.fifo := rfl
@[simp] theorem State.setReader_rules (s : State) (p : Port) (x : Option Subscription) : (s.setReader p x).rules = s.rules := rfl
@[simp] theorem State.setReader_switch (s : State) (p : Port) (x : Option Subscription) : (s.setReader p x).switch = s.switch := rfl
@[simp] theorem State.setReader_classifier (s : State) (p : Port) (x : Option Subscription) : (s.setReader p x).classifier = s.classifier := rfl
@[simp] theorem State.setReader_incidents (s : State) (p : Port) (x : Option Subscription) : (s.setReader p x).incidents = s.incidents := rfl
@[simp] theorem State.setReader_journal (s : State) (p : Port) (x : Option Subscription) : (s.setReader p x).journal = s.journal := rfl
@[simp] theorem State.setReader_alert (s : State) (p : Port) (x : Option Subscription) : (s.setReader p x).alert = s.alert := rfl
@[simp] theorem State.setReader_exceptions (s : State) (p : Port) (x : Option Subscription) : (s.setReader p x).exceptions = s.exceptions := rfl
@[simp] theorem State.setReader_ports (s : State) (p : Port) (x : Option Subscription) : (s.setReader p x).ports = s.ports := rfl
@[simp] theorem State.setReader_rate (s : State) (p : Port) (x : Option Subscription) : (s.setReader p x).rate = s.rate := rfl
@[simp] theorem State.setReader_spi (s : State) (p : Port) (x : Option Subscription) : (s.setReader p x).spi = s.spi := rfl
@[simp] theorem State.setReader_claim (s : State) (p : Port) (x : Option Subscription) : (s.setReader p x).claim = s.claim := rfl
@[simp] theorem State.setReader_restart (s : State) (p : Port) (x : Option Subscription) : (s.setReader p x).restart = s.restart := rfl
@[simp] theorem State.setReader_resetCause (s : State) (p : Port) (x : Option Subscription) : (s.setReader p x).resetCause = s.resetCause := rfl

@[simp] theorem State.setReader_readers (s : State) (p : Port) (x : Option Subscription) : (s.setReader p x).readers = s.readers.set p x := rfl

@[simp] theorem State.setLine_pending (s : State) (i : LineNo) (x : Line) : (s.setLine i x).pending = s.pending := rfl
@[simp] theorem State.setLine_clock (s : State) (i : LineNo) (x : Line) : (s.setLine i x).clock = s.clock := rfl
@[simp] theorem State.setLine_nextSample (s : State) (i : LineNo) (x : Line) : (s.setLine i x).nextSample = s.nextSample := rfl
@[simp] theorem State.setLine_fifo (s : State) (i : LineNo) (x : Line) : (s.setLine i x).fifo = s.fifo := rfl
@[simp] theorem State.setLine_rules (s : State) (i : LineNo) (x : Line) : (s.setLine i x).rules = s.rules := rfl
@[simp] theorem State.setLine_switch (s : State) (i : LineNo) (x : Line) : (s.setLine i x).switch = s.switch := rfl
@[simp] theorem State.setLine_classifier (s : State) (i : LineNo) (x : Line) : (s.setLine i x).classifier = s.classifier := rfl
@[simp] theorem State.setLine_incidents (s : State) (i : LineNo) (x : Line) : (s.setLine i x).incidents = s.incidents := rfl
@[simp] theorem State.setLine_journal (s : State) (i : LineNo) (x : Line) : (s.setLine i x).journal = s.journal := rfl
@[simp] theorem State.setLine_readers (s : State) (i : LineNo) (x : Line) : (s.setLine i x).readers = s.readers := rfl
@[simp] theorem State.setLine_alert (s : State) (i : LineNo) (x : Line) : (s.setLine i x).alert = s.alert := rfl
@[simp] theorem State.setLine_exceptions (s : State) (i : LineNo) (x : Line) : (s.setLine i x).exceptions = s.exceptions := rfl
@[simp] theorem State.setLine_ports (s : State) (i : LineNo) (x : Line) : (s.setLine i x).ports = s.ports := rfl
@[simp] theorem State.setLine_rate (s : State) (i : LineNo) (x : Line) : (s.setLine i x).rate = s.rate := rfl
@[simp] theorem State.setLine_spi (s : State) (i : LineNo) (x : Line) : (s.setLine i x).spi = s.spi := rfl
@[simp] theorem State.setLine_claim (s : State) (i : LineNo) (x : Line) : (s.setLine i x).claim = s.claim := rfl
@[simp] theorem State.setLine_restart (s : State) (i : LineNo) (x : Line) : (s.setLine i x).restart = s.restart := rfl
@[simp] theorem State.setLine_resetCause (s : State) (i : LineNo) (x : Line) : (s.setLine i x).resetCause = s.resetCause := rfl

@[simp] theorem State.setLine_lines (s : State) (i : LineNo) (x : Line) : (s.setLine i x).lines = s.lines.set i x := rfl

@[simp] theorem State.setSlot_pending (s : State) (i : SlotNo) (x : Option Incident) : (s.setSlot i x).pending = s.pending := rfl
@[simp] theorem State.setSlot_clock (s : State) (i : SlotNo) (x : Option Incident) : (s.setSlot i x).clock = s.clock := rfl
@[simp] theorem State.setSlot_lines (s : State) (i : SlotNo) (x : Option Incident) : (s.setSlot i x).lines = s.lines := rfl
@[simp] theorem State.setSlot_nextSample (s : State) (i : SlotNo) (x : Option Incident) : (s.setSlot i x).nextSample = s.nextSample := rfl
@[simp] theorem State.setSlot_fifo (s : State) (i : SlotNo) (x : Option Incident) : (s.setSlot i x).fifo = s.fifo := rfl
@[simp] theorem State.setSlot_rules (s : State) (i : SlotNo) (x : Option Incident) : (s.setSlot i x).rules = s.rules := rfl
@[simp] theorem State.setSlot_switch (s : State) (i : SlotNo) (x : Option Incident) : (s.setSlot i x).switch = s.switch := rfl
@[simp] theorem State.setSlot_classifier (s : State) (i : SlotNo) (x : Option Incident) : (s.setSlot i x).classifier = s.classifier := rfl
@[simp] theorem State.setSlot_journal (s : State) (i : SlotNo) (x : Option Incident) : (s.setSlot i x).journal = s.journal := rfl
@[simp] theorem State.setSlot_readers (s : State) (i : SlotNo) (x : Option Incident) : (s.setSlot i x).readers = s.readers := rfl
@[simp] theorem State.setSlot_alert (s : State) (i : SlotNo) (x : Option Incident) : (s.setSlot i x).alert = s.alert := rfl
@[simp] theorem State.setSlot_exceptions (s : State) (i : SlotNo) (x : Option Incident) : (s.setSlot i x).exceptions = s.exceptions := rfl
@[simp] theorem State.setSlot_ports (s : State) (i : SlotNo) (x : Option Incident) : (s.setSlot i x).ports = s.ports := rfl
@[simp] theorem State.setSlot_rate (s : State) (i : SlotNo) (x : Option Incident) : (s.setSlot i x).rate = s.rate := rfl
@[simp] theorem State.setSlot_spi (s : State) (i : SlotNo) (x : Option Incident) : (s.setSlot i x).spi = s.spi := rfl
@[simp] theorem State.setSlot_claim (s : State) (i : SlotNo) (x : Option Incident) : (s.setSlot i x).claim = s.claim := rfl
@[simp] theorem State.setSlot_restart (s : State) (i : SlotNo) (x : Option Incident) : (s.setSlot i x).restart = s.restart := rfl
@[simp] theorem State.setSlot_resetCause (s : State) (i : SlotNo) (x : Option Incident) : (s.setSlot i x).resetCause = s.resetCause := rfl

@[simp] theorem State.setSlot_incidents (s : State) (i : SlotNo) (x : Option Incident) : (s.setSlot i x).incidents = ⟨s.incidents.slots.set i x, s.incidents.nextId⟩ := rfl

@[simp] theorem State.setSession_pending (s : State) (p : Port) (x : Option Session) : (s.setSession p x).pending = s.pending := rfl
@[simp] theorem State.setSession_clock (s : State) (p : Port) (x : Option Session) : (s.setSession p x).clock = s.clock := rfl
@[simp] theorem State.setSession_lines (s : State) (p : Port) (x : Option Session) : (s.setSession p x).lines = s.lines := rfl
@[simp] theorem State.setSession_nextSample (s : State) (p : Port) (x : Option Session) : (s.setSession p x).nextSample = s.nextSample := rfl
@[simp] theorem State.setSession_fifo (s : State) (p : Port) (x : Option Session) : (s.setSession p x).fifo = s.fifo := rfl
@[simp] theorem State.setSession_rules (s : State) (p : Port) (x : Option Session) : (s.setSession p x).rules = s.rules := rfl
@[simp] theorem State.setSession_switch (s : State) (p : Port) (x : Option Session) : (s.setSession p x).switch = s.switch := rfl
@[simp] theorem State.setSession_classifier (s : State) (p : Port) (x : Option Session) : (s.setSession p x).classifier = s.classifier := rfl
@[simp] theorem State.setSession_incidents (s : State) (p : Port) (x : Option Session) : (s.setSession p x).incidents = s.incidents := rfl
@[simp] theorem State.setSession_journal (s : State) (p : Port) (x : Option Session) : (s.setSession p x).journal = s.journal := rfl
@[simp] theorem State.setSession_readers (s : State) (p : Port) (x : Option Session) : (s.setSession p x).readers = s.readers := rfl
@[simp] theorem State.setSession_alert (s : State) (p : Port) (x : Option Session) : (s.setSession p x).alert = s.alert := rfl
@[simp] theorem State.setSession_exceptions (s : State) (p : Port) (x : Option Session) : (s.setSession p x).exceptions = s.exceptions := rfl
@[simp] theorem State.setSession_rate (s : State) (p : Port) (x : Option Session) : (s.setSession p x).rate = s.rate := rfl
@[simp] theorem State.setSession_spi (s : State) (p : Port) (x : Option Session) : (s.setSession p x).spi = s.spi := rfl
@[simp] theorem State.setSession_claim (s : State) (p : Port) (x : Option Session) : (s.setSession p x).claim = s.claim := rfl
@[simp] theorem State.setSession_restart (s : State) (p : Port) (x : Option Session) : (s.setSession p x).restart = s.restart := rfl
@[simp] theorem State.setSession_resetCause (s : State) (p : Port) (x : Option Session) : (s.setSession p x).resetCause = s.resetCause := rfl

@[simp] theorem State.setSession_ports (s : State) (p : Port) (x : Option Session) : (s.setSession p x).ports = s.ports.set p { s.ports.get p with session := x } := rfl

@[simp] theorem State.queueFrame_pending (s : State) (p : Port) (f : Frame) : (s.queueFrame p f).pending = s.pending := rfl
@[simp] theorem State.queueFrame_clock (s : State) (p : Port) (f : Frame) : (s.queueFrame p f).clock = s.clock := rfl
@[simp] theorem State.queueFrame_lines (s : State) (p : Port) (f : Frame) : (s.queueFrame p f).lines = s.lines := rfl
@[simp] theorem State.queueFrame_nextSample (s : State) (p : Port) (f : Frame) : (s.queueFrame p f).nextSample = s.nextSample := rfl
@[simp] theorem State.queueFrame_fifo (s : State) (p : Port) (f : Frame) : (s.queueFrame p f).fifo = s.fifo := rfl
@[simp] theorem State.queueFrame_rules (s : State) (p : Port) (f : Frame) : (s.queueFrame p f).rules = s.rules := rfl
@[simp] theorem State.queueFrame_switch (s : State) (p : Port) (f : Frame) : (s.queueFrame p f).switch = s.switch := rfl
@[simp] theorem State.queueFrame_classifier (s : State) (p : Port) (f : Frame) : (s.queueFrame p f).classifier = s.classifier := rfl
@[simp] theorem State.queueFrame_incidents (s : State) (p : Port) (f : Frame) : (s.queueFrame p f).incidents = s.incidents := rfl
@[simp] theorem State.queueFrame_journal (s : State) (p : Port) (f : Frame) : (s.queueFrame p f).journal = s.journal := rfl
@[simp] theorem State.queueFrame_readers (s : State) (p : Port) (f : Frame) : (s.queueFrame p f).readers = s.readers := rfl
@[simp] theorem State.queueFrame_alert (s : State) (p : Port) (f : Frame) : (s.queueFrame p f).alert = s.alert := rfl
@[simp] theorem State.queueFrame_exceptions (s : State) (p : Port) (f : Frame) : (s.queueFrame p f).exceptions = s.exceptions := rfl
@[simp] theorem State.queueFrame_rate (s : State) (p : Port) (f : Frame) : (s.queueFrame p f).rate = s.rate := rfl
@[simp] theorem State.queueFrame_spi (s : State) (p : Port) (f : Frame) : (s.queueFrame p f).spi = s.spi := rfl
@[simp] theorem State.queueFrame_claim (s : State) (p : Port) (f : Frame) : (s.queueFrame p f).claim = s.claim := rfl
@[simp] theorem State.queueFrame_restart (s : State) (p : Port) (f : Frame) : (s.queueFrame p f).restart = s.restart := rfl
@[simp] theorem State.queueFrame_resetCause (s : State) (p : Port) (f : Frame) : (s.queueFrame p f).resetCause = s.resetCause := rfl

@[simp] theorem State.queueFrame_ports (s : State) (p : Port) (f : Frame) :
    (s.queueFrame p f).ports = s.ports.set p { s.ports.get p with waiting := (s.ports.get p).waiting ++ [f] } := rfl

@[simp] theorem State.withdraw_pending (s : State) (p : Port) (f : Frame → Bool) : (s.withdraw p f).pending = s.pending := rfl
@[simp] theorem State.withdraw_clock (s : State) (p : Port) (f : Frame → Bool) : (s.withdraw p f).clock = s.clock := rfl
@[simp] theorem State.withdraw_lines (s : State) (p : Port) (f : Frame → Bool) : (s.withdraw p f).lines = s.lines := rfl
@[simp] theorem State.withdraw_nextSample (s : State) (p : Port) (f : Frame → Bool) : (s.withdraw p f).nextSample = s.nextSample := rfl
@[simp] theorem State.withdraw_fifo (s : State) (p : Port) (f : Frame → Bool) : (s.withdraw p f).fifo = s.fifo := rfl
@[simp] theorem State.withdraw_rules (s : State) (p : Port) (f : Frame → Bool) : (s.withdraw p f).rules = s.rules := rfl
@[simp] theorem State.withdraw_switch (s : State) (p : Port) (f : Frame → Bool) : (s.withdraw p f).switch = s.switch := rfl
@[simp] theorem State.withdraw_classifier (s : State) (p : Port) (f : Frame → Bool) : (s.withdraw p f).classifier = s.classifier := rfl
@[simp] theorem State.withdraw_incidents (s : State) (p : Port) (f : Frame → Bool) : (s.withdraw p f).incidents = s.incidents := rfl
@[simp] theorem State.withdraw_journal (s : State) (p : Port) (f : Frame → Bool) : (s.withdraw p f).journal = s.journal := rfl
@[simp] theorem State.withdraw_readers (s : State) (p : Port) (f : Frame → Bool) : (s.withdraw p f).readers = s.readers := rfl
@[simp] theorem State.withdraw_alert (s : State) (p : Port) (f : Frame → Bool) : (s.withdraw p f).alert = s.alert := rfl
@[simp] theorem State.withdraw_exceptions (s : State) (p : Port) (f : Frame → Bool) : (s.withdraw p f).exceptions = s.exceptions := rfl
@[simp] theorem State.withdraw_rate (s : State) (p : Port) (f : Frame → Bool) : (s.withdraw p f).rate = s.rate := rfl
@[simp] theorem State.withdraw_spi (s : State) (p : Port) (f : Frame → Bool) : (s.withdraw p f).spi = s.spi := rfl
@[simp] theorem State.withdraw_claim (s : State) (p : Port) (f : Frame → Bool) : (s.withdraw p f).claim = s.claim := rfl
@[simp] theorem State.withdraw_restart (s : State) (p : Port) (f : Frame → Bool) : (s.withdraw p f).restart = s.restart := rfl
@[simp] theorem State.withdraw_resetCause (s : State) (p : Port) (f : Frame → Bool) : (s.withdraw p f).resetCause = s.resetCause := rfl

@[simp] theorem State.withdraw_ports (s : State) (p : Port) (f : Frame → Bool) :
    (s.withdraw p f).ports = s.ports.set p { s.ports.get p with waiting := (s.ports.get p).waiting.filter fun x => !f x } := rfl

@[simp] theorem State.putInHand_pending (s : State) (p : Port) : (s.putInHand p).pending = s.pending := rfl
@[simp] theorem State.putInHand_clock (s : State) (p : Port) : (s.putInHand p).clock = s.clock := rfl
@[simp] theorem State.putInHand_lines (s : State) (p : Port) : (s.putInHand p).lines = s.lines := rfl
@[simp] theorem State.putInHand_nextSample (s : State) (p : Port) : (s.putInHand p).nextSample = s.nextSample := rfl
@[simp] theorem State.putInHand_fifo (s : State) (p : Port) : (s.putInHand p).fifo = s.fifo := rfl
@[simp] theorem State.putInHand_rules (s : State) (p : Port) : (s.putInHand p).rules = s.rules := rfl
@[simp] theorem State.putInHand_switch (s : State) (p : Port) : (s.putInHand p).switch = s.switch := rfl
@[simp] theorem State.putInHand_classifier (s : State) (p : Port) : (s.putInHand p).classifier = s.classifier := rfl
@[simp] theorem State.putInHand_incidents (s : State) (p : Port) : (s.putInHand p).incidents = s.incidents := rfl
@[simp] theorem State.putInHand_journal (s : State) (p : Port) : (s.putInHand p).journal = s.journal := rfl
@[simp] theorem State.putInHand_readers (s : State) (p : Port) : (s.putInHand p).readers = s.readers := rfl
@[simp] theorem State.putInHand_alert (s : State) (p : Port) : (s.putInHand p).alert = s.alert := rfl
@[simp] theorem State.putInHand_exceptions (s : State) (p : Port) : (s.putInHand p).exceptions = s.exceptions := rfl
@[simp] theorem State.putInHand_rate (s : State) (p : Port) : (s.putInHand p).rate = s.rate := rfl
@[simp] theorem State.putInHand_spi (s : State) (p : Port) : (s.putInHand p).spi = s.spi := rfl
@[simp] theorem State.putInHand_claim (s : State) (p : Port) : (s.putInHand p).claim = s.claim := rfl
@[simp] theorem State.putInHand_restart (s : State) (p : Port) : (s.putInHand p).restart = s.restart := rfl
@[simp] theorem State.putInHand_resetCause (s : State) (p : Port) : (s.putInHand p).resetCause = s.resetCause := rfl

@[simp] theorem State.putInHand_ports (s : State) (p : Port) :
    (s.putInHand p).ports = s.ports.set p { s.ports.get p with inHand := true } := rfl

@[simp] theorem State.answer_pending (s : State) (p : Port) (r : Reply) : (s.answer p r).pending = s.pending := rfl
@[simp] theorem State.answer_clock (s : State) (p : Port) (r : Reply) : (s.answer p r).clock = s.clock := rfl
@[simp] theorem State.answer_lines (s : State) (p : Port) (r : Reply) : (s.answer p r).lines = s.lines := rfl
@[simp] theorem State.answer_nextSample (s : State) (p : Port) (r : Reply) : (s.answer p r).nextSample = s.nextSample := rfl
@[simp] theorem State.answer_fifo (s : State) (p : Port) (r : Reply) : (s.answer p r).fifo = s.fifo := rfl
@[simp] theorem State.answer_rules (s : State) (p : Port) (r : Reply) : (s.answer p r).rules = s.rules := rfl
@[simp] theorem State.answer_switch (s : State) (p : Port) (r : Reply) : (s.answer p r).switch = s.switch := rfl
@[simp] theorem State.answer_classifier (s : State) (p : Port) (r : Reply) : (s.answer p r).classifier = s.classifier := rfl
@[simp] theorem State.answer_incidents (s : State) (p : Port) (r : Reply) : (s.answer p r).incidents = s.incidents := rfl
@[simp] theorem State.answer_journal (s : State) (p : Port) (r : Reply) : (s.answer p r).journal = s.journal := rfl
@[simp] theorem State.answer_readers (s : State) (p : Port) (r : Reply) : (s.answer p r).readers = s.readers := rfl
@[simp] theorem State.answer_alert (s : State) (p : Port) (r : Reply) : (s.answer p r).alert = s.alert := rfl
@[simp] theorem State.answer_exceptions (s : State) (p : Port) (r : Reply) : (s.answer p r).exceptions = s.exceptions := rfl
@[simp] theorem State.answer_rate (s : State) (p : Port) (r : Reply) : (s.answer p r).rate = s.rate := rfl
@[simp] theorem State.answer_spi (s : State) (p : Port) (r : Reply) : (s.answer p r).spi = s.spi := rfl
@[simp] theorem State.answer_claim (s : State) (p : Port) (r : Reply) : (s.answer p r).claim = s.claim := rfl
@[simp] theorem State.answer_restart (s : State) (p : Port) (r : Reply) : (s.answer p r).restart = s.restart := rfl
@[simp] theorem State.answer_resetCause (s : State) (p : Port) (r : Reply) : (s.answer p r).resetCause = s.resetCause := rfl

@[simp] theorem State.answer_ports (s : State) (p : Port) (r : Reply) : (s.answer p r).ports =
    s.ports.set p { s.ports.get p with waiting := (s.ports.get p).waiting ++ [.reply false r], lastReply := some r } := by
  cases p <;> rfl


end Sys2Proof.Machine
end

