-- ==== Sys2Proof/Laws/Frames.lean ====
section
/-!
SUPPORT. The frame of each shared operation: one lemma that names every part of the state it leaves as it was.
-/
namespace Sys2Proof.Machine

/-! ### Exceptions and alerts -/

/-- `queueNotice` changes nothing but ports. -/
@[simp] theorem queueNotice_frame (p : Port) (s : State) :
    (queueNotice p s).pending = s.pending ∧ (queueNotice p s).clock = s.clock ∧
    (queueNotice p s).lines = s.lines ∧ (queueNotice p s).nextSample = s.nextSample ∧
    (queueNotice p s).fifo = s.fifo ∧ (queueNotice p s).rules = s.rules ∧
    (queueNotice p s).switch = s.switch ∧ (queueNotice p s).classifier = s.classifier ∧
    (queueNotice p s).incidents = s.incidents ∧ (queueNotice p s).journal = s.journal ∧
    (queueNotice p s).readers = s.readers ∧ (queueNotice p s).alert = s.alert ∧
    (queueNotice p s).exceptions = s.exceptions ∧ (queueNotice p s).rate = s.rate ∧
    (queueNotice p s).spi = s.spi ∧ (queueNotice p s).claim = s.claim ∧
    (queueNotice p s).restart = s.restart ∧ (queueNotice p s).resetCause = s.resetCause := by
  simp only [queueNotice]; (repeat' split) <;> simp

/-- `offerNotice` changes nothing but ports. -/
@[simp] theorem offerNotice_frame (p : Port) (s : State) :
    (offerNotice p s).pending = s.pending ∧ (offerNotice p s).clock = s.clock ∧
    (offerNotice p s).lines = s.lines ∧ (offerNotice p s).nextSample = s.nextSample ∧
    (offerNotice p s).fifo = s.fifo ∧ (offerNotice p s).rules = s.rules ∧
    (offerNotice p s).switch = s.switch ∧ (offerNotice p s).classifier = s.classifier ∧
    (offerNotice p s).incidents = s.incidents ∧ (offerNotice p s).journal = s.journal ∧
    (offerNotice p s).readers = s.readers ∧ (offerNotice p s).alert = s.alert ∧
    (offerNotice p s).exceptions = s.exceptions ∧ (offerNotice p s).rate = s.rate ∧
    (offerNotice p s).spi = s.spi ∧ (offerNotice p s).claim = s.claim ∧
    (offerNotice p s).restart = s.restart ∧ (offerNotice p s).resetCause = s.resetCause := by
  simp only [offerNotice]; (repeat' split) <;> simp

/-- `raise` changes nothing but exceptions, ports. -/
@[simp] theorem raise_frame (k : ExceptionKind) (x : ExceptionSubject) (s : State) :
    (raise k x s).pending = s.pending ∧ (raise k x s).clock = s.clock ∧
    (raise k x s).lines = s.lines ∧ (raise k x s).nextSample = s.nextSample ∧
    (raise k x s).fifo = s.fifo ∧ (raise k x s).rules = s.rules ∧
    (raise k x s).switch = s.switch ∧ (raise k x s).classifier = s.classifier ∧
    (raise k x s).incidents = s.incidents ∧ (raise k x s).journal = s.journal ∧
    (raise k x s).readers = s.readers ∧ (raise k x s).alert = s.alert ∧
    (raise k x s).rate = s.rate ∧ (raise k x s).spi = s.spi ∧
    (raise k x s).claim = s.claim ∧ (raise k x s).restart = s.restart ∧
    (raise k x s).resetCause = s.resetCause := by
  simp only [raise]; (repeat' split) <;> simp

/-- `forgetNotices` changes nothing but ports. -/
@[simp] theorem forgetNotices_frame (p : Port) (s : State) :
    (forgetNotices p s).pending = s.pending ∧ (forgetNotices p s).clock = s.clock ∧
    (forgetNotices p s).lines = s.lines ∧ (forgetNotices p s).nextSample = s.nextSample ∧
    (forgetNotices p s).fifo = s.fifo ∧ (forgetNotices p s).rules = s.rules ∧
    (forgetNotices p s).switch = s.switch ∧ (forgetNotices p s).classifier = s.classifier ∧
    (forgetNotices p s).incidents = s.incidents ∧ (forgetNotices p s).journal = s.journal ∧
    (forgetNotices p s).readers = s.readers ∧ (forgetNotices p s).alert = s.alert ∧
    (forgetNotices p s).exceptions = s.exceptions ∧ (forgetNotices p s).rate = s.rate ∧
    (forgetNotices p s).spi = s.spi ∧ (forgetNotices p s).claim = s.claim ∧
    (forgetNotices p s).restart = s.restart ∧ (forgetNotices p s).resetCause = s.resetCause := by
  simp only [forgetNotices]; (repeat' split) <;> simp

/-- `queueAlert` changes nothing but ports. -/
@[simp] theorem queueAlert_frame (p : Port) (ses : Session) (a : AlertInfo) (s : State) :
    (queueAlert p ses a s).pending = s.pending ∧ (queueAlert p ses a s).clock = s.clock ∧
    (queueAlert p ses a s).lines = s.lines ∧ (queueAlert p ses a s).nextSample = s.nextSample ∧
    (queueAlert p ses a s).fifo = s.fifo ∧ (queueAlert p ses a s).rules = s.rules ∧
    (queueAlert p ses a s).switch = s.switch ∧ (queueAlert p ses a s).classifier = s.classifier ∧
    (queueAlert p ses a s).incidents = s.incidents ∧ (queueAlert p ses a s).journal = s.journal ∧
    (queueAlert p ses a s).readers = s.readers ∧ (queueAlert p ses a s).alert = s.alert ∧
    (queueAlert p ses a s).exceptions = s.exceptions ∧ (queueAlert p ses a s).rate = s.rate ∧
    (queueAlert p ses a s).spi = s.spi ∧ (queueAlert p ses a s).claim = s.claim ∧
    (queueAlert p ses a s).restart = s.restart ∧ (queueAlert p ses a s).resetCause = s.resetCause := by
  simp only [queueAlert]; (repeat' split) <;> simp

/-- `offerAlert` changes nothing but ports. -/
@[simp] theorem offerAlert_frame (p : Port) (a : AlertInfo) (s : State) :
    (offerAlert p a s).pending = s.pending ∧ (offerAlert p a s).clock = s.clock ∧
    (offerAlert p a s).lines = s.lines ∧ (offerAlert p a s).nextSample = s.nextSample ∧
    (offerAlert p a s).fifo = s.fifo ∧ (offerAlert p a s).rules = s.rules ∧
    (offerAlert p a s).switch = s.switch ∧ (offerAlert p a s).classifier = s.classifier ∧
    (offerAlert p a s).incidents = s.incidents ∧ (offerAlert p a s).journal = s.journal ∧
    (offerAlert p a s).readers = s.readers ∧ (offerAlert p a s).alert = s.alert ∧
    (offerAlert p a s).exceptions = s.exceptions ∧ (offerAlert p a s).rate = s.rate ∧
    (offerAlert p a s).spi = s.spi ∧ (offerAlert p a s).claim = s.claim ∧
    (offerAlert p a s).restart = s.restart ∧ (offerAlert p a s).resetCause = s.resetCause := by
  simp only [offerAlert]; (repeat' split) <;> simp

/-- `takeAlert` changes nothing but alert, ports. -/
@[simp] theorem takeAlert_frame (a : AlertInfo) (s : State) :
    (takeAlert a s).pending = s.pending ∧ (takeAlert a s).clock = s.clock ∧
    (takeAlert a s).lines = s.lines ∧ (takeAlert a s).nextSample = s.nextSample ∧
    (takeAlert a s).fifo = s.fifo ∧ (takeAlert a s).rules = s.rules ∧
    (takeAlert a s).switch = s.switch ∧ (takeAlert a s).classifier = s.classifier ∧
    (takeAlert a s).incidents = s.incidents ∧ (takeAlert a s).journal = s.journal ∧
    (takeAlert a s).readers = s.readers ∧ (takeAlert a s).exceptions = s.exceptions ∧
    (takeAlert a s).rate = s.rate ∧ (takeAlert a s).spi = s.spi ∧
    (takeAlert a s).claim = s.claim ∧ (takeAlert a s).restart = s.restart ∧
    (takeAlert a s).resetCause = s.resetCause := by
  simp [takeAlert]

/-- `handAlert` changes nothing but alert, ports. -/
@[simp] theorem handAlert_frame (a : Option AlertInfo) (s : State) :
    (handAlert a s).pending = s.pending ∧ (handAlert a s).clock = s.clock ∧
    (handAlert a s).lines = s.lines ∧ (handAlert a s).nextSample = s.nextSample ∧
    (handAlert a s).fifo = s.fifo ∧ (handAlert a s).rules = s.rules ∧
    (handAlert a s).switch = s.switch ∧ (handAlert a s).classifier = s.classifier ∧
    (handAlert a s).incidents = s.incidents ∧ (handAlert a s).journal = s.journal ∧
    (handAlert a s).readers = s.readers ∧ (handAlert a s).exceptions = s.exceptions ∧
    (handAlert a s).rate = s.rate ∧ (handAlert a s).spi = s.spi ∧
    (handAlert a s).claim = s.claim ∧ (handAlert a s).restart = s.restart ∧
    (handAlert a s).resetCause = s.resetCause := by
  simp only [handAlert]; (repeat' split) <;> simp

/-! ### Readers and the journal -/

/-- `withdrawRecords` changes nothing but ports, readers. -/
@[simp] theorem withdrawRecords_frame (p : Port) (s : State) :
    (withdrawRecords p s).pending = s.pending ∧ (withdrawRecords p s).clock = s.clock ∧
    (withdrawRecords p s).lines = s.lines ∧ (withdrawRecords p s).nextSample = s.nextSample ∧
    (withdrawRecords p s).fifo = s.fifo ∧ (withdrawRecords p s).rules = s.rules ∧
    (withdrawRecords p s).switch = s.switch ∧ (withdrawRecords p s).classifier = s.classifier ∧
    (withdrawRecords p s).incidents = s.incidents ∧ (withdrawRecords p s).journal = s.journal ∧
    (withdrawRecords p s).alert = s.alert ∧ (withdrawRecords p s).exceptions = s.exceptions ∧
    (withdrawRecords p s).rate = s.rate ∧ (withdrawRecords p s).spi = s.spi ∧
    (withdrawRecords p s).claim = s.claim ∧ (withdrawRecords p s).restart = s.restart ∧
    (withdrawRecords p s).resetCause = s.resetCause := by
  simp only [withdrawRecords]; (repeat' split) <;> simp

/-- `loseRecord` changes nothing but ports, readers, exceptions. -/
@[simp] theorem loseRecord_frame (n : Seq) (p : Port) (s : State) :
    (loseRecord n p s).pending = s.pending ∧ (loseRecord n p s).clock = s.clock ∧
    (loseRecord n p s).lines = s.lines ∧ (loseRecord n p s).nextSample = s.nextSample ∧
    (loseRecord n p s).fifo = s.fifo ∧ (loseRecord n p s).rules = s.rules ∧
    (loseRecord n p s).switch = s.switch ∧ (loseRecord n p s).classifier = s.classifier ∧
    (loseRecord n p s).incidents = s.incidents ∧ (loseRecord n p s).journal = s.journal ∧
    (loseRecord n p s).alert = s.alert ∧ (loseRecord n p s).rate = s.rate ∧
    (loseRecord n p s).spi = s.spi ∧ (loseRecord n p s).claim = s.claim ∧
    (loseRecord n p s).restart = s.restart ∧ (loseRecord n p s).resetCause = s.resetCause := by
  simp only [loseRecord]; (repeat' split) <;> simp

/-- `ageAlert` changes nothing but alert. -/
@[simp] theorem ageAlert_frame (s : State) :
    (ageAlert s).pending = s.pending ∧ (ageAlert s).clock = s.clock ∧
    (ageAlert s).lines = s.lines ∧ (ageAlert s).nextSample = s.nextSample ∧
    (ageAlert s).fifo = s.fifo ∧ (ageAlert s).rules = s.rules ∧
    (ageAlert s).switch = s.switch ∧ (ageAlert s).classifier = s.classifier ∧
    (ageAlert s).incidents = s.incidents ∧ (ageAlert s).journal = s.journal ∧
    (ageAlert s).readers = s.readers ∧ (ageAlert s).exceptions = s.exceptions ∧
    (ageAlert s).ports = s.ports ∧ (ageAlert s).rate = s.rate ∧
    (ageAlert s).spi = s.spi ∧ (ageAlert s).claim = s.claim ∧
    (ageAlert s).restart = s.restart ∧ (ageAlert s).resetCause = s.resetCause := by
  simp only [ageAlert]; (repeat' split) <;> simp

/-- `acceptRecord` changes nothing but journal, alert. -/
@[simp] theorem acceptRecord_frame (b : RecordBody) (t : Stamp) (f : RecordFlags) (s : State) :
    (acceptRecord b t f s).pending = s.pending ∧ (acceptRecord b t f s).clock = s.clock ∧
    (acceptRecord b t f s).lines = s.lines ∧ (acceptRecord b t f s).nextSample = s.nextSample ∧
    (acceptRecord b t f s).fifo = s.fifo ∧ (acceptRecord b t f s).rules = s.rules ∧
    (acceptRecord b t f s).switch = s.switch ∧ (acceptRecord b t f s).classifier = s.classifier ∧
    (acceptRecord b t f s).incidents = s.incidents ∧ (acceptRecord b t f s).readers = s.readers ∧
    (acceptRecord b t f s).exceptions = s.exceptions ∧ (acceptRecord b t f s).ports = s.ports ∧
    (acceptRecord b t f s).rate = s.rate ∧ (acceptRecord b t f s).spi = s.spi ∧
    (acceptRecord b t f s).claim = s.claim ∧ (acceptRecord b t f s).restart = s.restart ∧
    (acceptRecord b t f s).resetCause = s.resetCause := by
  simp [acceptRecord]

/-- `acceptOffer` changes nothing but journal, alert, ports. -/
@[simp] theorem acceptOffer_frame (o : Offer) (s : State) :
    (acceptOffer o s).pending = s.pending ∧ (acceptOffer o s).clock = s.clock ∧
    (acceptOffer o s).lines = s.lines ∧ (acceptOffer o s).nextSample = s.nextSample ∧
    (acceptOffer o s).fifo = s.fifo ∧ (acceptOffer o s).rules = s.rules ∧
    (acceptOffer o s).switch = s.switch ∧ (acceptOffer o s).classifier = s.classifier ∧
    (acceptOffer o s).incidents = s.incidents ∧ (acceptOffer o s).readers = s.readers ∧
    (acceptOffer o s).exceptions = s.exceptions ∧ (acceptOffer o s).rate = s.rate ∧
    (acceptOffer o s).spi = s.spi ∧ (acceptOffer o s).claim = s.claim ∧
    (acceptOffer o s).restart = s.restart ∧ (acceptOffer o s).resetCause = s.resetCause := by
  simp [acceptOffer]

/-- `raiseMarker` changes nothing but journal, alert, exceptions, ports. -/
@[simp] theorem raiseMarker_frame (o : Offer) (s : State) :
    (raiseMarker o s).pending = s.pending ∧ (raiseMarker o s).clock = s.clock ∧
    (raiseMarker o s).lines = s.lines ∧ (raiseMarker o s).nextSample = s.nextSample ∧
    (raiseMarker o s).fifo = s.fifo ∧ (raiseMarker o s).rules = s.rules ∧
    (raiseMarker o s).switch = s.switch ∧ (raiseMarker o s).classifier = s.classifier ∧
    (raiseMarker o s).incidents = s.incidents ∧ (raiseMarker o s).readers = s.readers ∧
    (raiseMarker o s).rate = s.rate ∧ (raiseMarker o s).spi = s.spi ∧
    (raiseMarker o s).claim = s.claim ∧ (raiseMarker o s).restart = s.restart ∧
    (raiseMarker o s).resetCause = s.resetCause := by
  simp [raiseMarker]

/-- `countRefused` changes nothing but journal, alert, ports. -/
@[simp] theorem countRefused_frame (o : Offer) (s : State) :
    (countRefused o s).pending = s.pending ∧ (countRefused o s).clock = s.clock ∧
    (countRefused o s).lines = s.lines ∧ (countRefused o s).nextSample = s.nextSample ∧
    (countRefused o s).fifo = s.fifo ∧ (countRefused o s).rules = s.rules ∧
    (countRefused o s).switch = s.switch ∧ (countRefused o s).classifier = s.classifier ∧
    (countRefused o s).incidents = s.incidents ∧ (countRefused o s).readers = s.readers ∧
    (countRefused o s).exceptions = s.exceptions ∧ (countRefused o s).rate = s.rate ∧
    (countRefused o s).spi = s.spi ∧ (countRefused o s).claim = s.claim ∧
    (countRefused o s).restart = s.restart ∧ (countRefused o s).resetCause = s.resetCause := by
  simp [countRefused]

/-- `overwriteOldest` changes nothing but journal, exceptions, readers, ports. -/
@[simp] theorem overwriteOldest_frame (s : State) :
    (overwriteOldest s).pending = s.pending ∧ (overwriteOldest s).clock = s.clock ∧
    (overwriteOldest s).lines = s.lines ∧ (overwriteOldest s).nextSample = s.nextSample ∧
    (overwriteOldest s).fifo = s.fifo ∧ (overwriteOldest s).rules = s.rules ∧
    (overwriteOldest s).switch = s.switch ∧ (overwriteOldest s).classifier = s.classifier ∧
    (overwriteOldest s).incidents = s.incidents ∧ (overwriteOldest s).alert = s.alert ∧
    (overwriteOldest s).rate = s.rate ∧ (overwriteOldest s).spi = s.spi ∧
    (overwriteOldest s).claim = s.claim ∧ (overwriteOldest s).restart = s.restart ∧
    (overwriteOldest s).resetCause = s.resetCause := by
  simp only [overwriteOldest]; (repeat' split) <;> simp

/-- `append` changes nothing but journal, alert, exceptions, readers, ports. -/
@[simp] theorem append_frame (o : Offer) (s : State) :
    ((append o s).1).pending = s.pending ∧ ((append o s).1).clock = s.clock ∧
    ((append o s).1).lines = s.lines ∧ ((append o s).1).nextSample = s.nextSample ∧
    ((append o s).1).fifo = s.fifo ∧ ((append o s).1).rules = s.rules ∧
    ((append o s).1).switch = s.switch ∧ ((append o s).1).classifier = s.classifier ∧
    ((append o s).1).incidents = s.incidents ∧ ((append o s).1).rate = s.rate ∧
    ((append o s).1).spi = s.spi ∧ ((append o s).1).claim = s.claim ∧
    ((append o s).1).restart = s.restart ∧ ((append o s).1).resetCause = s.resetCause := by
  simp only [append]; (repeat' split) <;> simp

/-- `offer` changes nothing but journal, alert, exceptions, readers, ports. -/
@[simp] theorem offer_frame (o : Offer) (s : State) :
    (offer o s).pending = s.pending ∧ (offer o s).clock = s.clock ∧
    (offer o s).lines = s.lines ∧ (offer o s).nextSample = s.nextSample ∧
    (offer o s).fifo = s.fifo ∧ (offer o s).rules = s.rules ∧
    (offer o s).switch = s.switch ∧ (offer o s).classifier = s.classifier ∧
    (offer o s).incidents = s.incidents ∧ (offer o s).rate = s.rate ∧
    (offer o s).spi = s.spi ∧ (offer o s).claim = s.claim ∧
    (offer o s).restart = s.restart ∧ (offer o s).resetCause = s.resetCause := by
  simp [offer]

/-- `evaluateRelease` changes nothing but journal. -/
@[simp] theorem evaluateRelease_frame (s : State) :
    (evaluateRelease s).pending = s.pending ∧ (evaluateRelease s).clock = s.clock ∧
    (evaluateRelease s).lines = s.lines ∧ (evaluateRelease s).nextSample = s.nextSample ∧
    (evaluateRelease s).fifo = s.fifo ∧ (evaluateRelease s).rules = s.rules ∧
    (evaluateRelease s).switch = s.switch ∧ (evaluateRelease s).classifier = s.classifier ∧
    (evaluateRelease s).incidents = s.incidents ∧ (evaluateRelease s).readers = s.readers ∧
    (evaluateRelease s).alert = s.alert ∧ (evaluateRelease s).exceptions = s.exceptions ∧
    (evaluateRelease s).ports = s.ports ∧ (evaluateRelease s).rate = s.rate ∧
    (evaluateRelease s).spi = s.spi ∧ (evaluateRelease s).claim = s.claim ∧
    (evaluateRelease s).restart = s.restart ∧ (evaluateRelease s).resetCause = s.resetCause := by
  simp only [evaluateRelease]; (repeat' split) <;> simp

/-- `endReader` changes nothing but journal, readers, ports. -/
@[simp] theorem endReader_frame (p : Port) (s : State) :
    (endReader p s).pending = s.pending ∧ (endReader p s).clock = s.clock ∧
    (endReader p s).lines = s.lines ∧ (endReader p s).nextSample = s.nextSample ∧
    (endReader p s).fifo = s.fifo ∧ (endReader p s).rules = s.rules ∧
    (endReader p s).switch = s.switch ∧ (endReader p s).classifier = s.classifier ∧
    (endReader p s).incidents = s.incidents ∧ (endReader p s).alert = s.alert ∧
    (endReader p s).exceptions = s.exceptions ∧ (endReader p s).rate = s.rate ∧
    (endReader p s).spi = s.spi ∧ (endReader p s).claim = s.claim ∧
    (endReader p s).restart = s.restart ∧ (endReader p s).resetCause = s.resetCause := by
  simp only [endReader]; (repeat' split) <;> simp

/-- `returnGap` changes nothing but readers, ports. -/
@[simp] theorem returnGap_frame (p : Port) (s : State) :
    (returnGap p s).pending = s.pending ∧ (returnGap p s).clock = s.clock ∧
    (returnGap p s).lines = s.lines ∧ (returnGap p s).nextSample = s.nextSample ∧
    (returnGap p s).fifo = s.fifo ∧ (returnGap p s).rules = s.rules ∧
    (returnGap p s).switch = s.switch ∧ (returnGap p s).classifier = s.classifier ∧
    (returnGap p s).incidents = s.incidents ∧ (returnGap p s).journal = s.journal ∧
    (returnGap p s).alert = s.alert ∧ (returnGap p s).exceptions = s.exceptions ∧
    (returnGap p s).rate = s.rate ∧ (returnGap p s).spi = s.spi ∧
    (returnGap p s).claim = s.claim ∧ (returnGap p s).restart = s.restart ∧
    (returnGap p s).resetCause = s.resetCause := by
  simp only [returnGap]; (repeat' split) <;> simp

/-- `readerSessionEnd` changes nothing but journal, readers. -/
@[simp] theorem readerSessionEnd_frame (p : Port) (s : State) :
    (readerSessionEnd p s).pending = s.pending ∧ (readerSessionEnd p s).clock = s.clock ∧
    (readerSessionEnd p s).lines = s.lines ∧ (readerSessionEnd p s).nextSample = s.nextSample ∧
    (readerSessionEnd p s).fifo = s.fifo ∧ (readerSessionEnd p s).rules = s.rules ∧
    (readerSessionEnd p s).switch = s.switch ∧ (readerSessionEnd p s).classifier = s.classifier ∧
    (readerSessionEnd p s).incidents = s.incidents ∧ (readerSessionEnd p s).alert = s.alert ∧
    (readerSessionEnd p s).exceptions = s.exceptions ∧ (readerSessionEnd p s).ports = s.ports ∧
    (readerSessionEnd p s).rate = s.rate ∧ (readerSessionEnd p s).spi = s.spi ∧
    (readerSessionEnd p s).claim = s.claim ∧ (readerSessionEnd p s).restart = s.restart ∧
    (readerSessionEnd p s).resetCause = s.resetCause := by
  simp only [readerSessionEnd]; (repeat' split) <;> simp

/-- `endSession` changes nothing but journal, readers, ports, claim. -/
@[simp] theorem endSession_frame (p : Port) (s : State) :
    (endSession p s).pending = s.pending ∧ (endSession p s).clock = s.clock ∧
    (endSession p s).lines = s.lines ∧ (endSession p s).nextSample = s.nextSample ∧
    (endSession p s).fifo = s.fifo ∧ (endSession p s).rules = s.rules ∧
    (endSession p s).switch = s.switch ∧ (endSession p s).classifier = s.classifier ∧
    (endSession p s).incidents = s.incidents ∧ (endSession p s).alert = s.alert ∧
    (endSession p s).exceptions = s.exceptions ∧ (endSession p s).rate = s.rate ∧
    (endSession p s).spi = s.spi ∧ (endSession p s).restart = s.restart ∧
    (endSession p s).resetCause = s.resetCause := by
  simp only [endSession]; (repeat' split) <;> simp

/-- `clearJournal` changes nothing but journal, readers, ports, alert. -/
@[simp] theorem clearJournal_frame (s : State) :
    (clearJournal s).pending = s.pending ∧ (clearJournal s).clock = s.clock ∧
    (clearJournal s).lines = s.lines ∧ (clearJournal s).nextSample = s.nextSample ∧
    (clearJournal s).fifo = s.fifo ∧ (clearJournal s).rules = s.rules ∧
    (clearJournal s).switch = s.switch ∧ (clearJournal s).classifier = s.classifier ∧
    (clearJournal s).incidents = s.incidents ∧ (clearJournal s).exceptions = s.exceptions ∧
    (clearJournal s).rate = s.rate ∧ (clearJournal s).spi = s.spi ∧
    (clearJournal s).claim = s.claim ∧ (clearJournal s).restart = s.restart ∧
    (clearJournal s).resetCause = s.resetCause := by
  simp [clearJournal]

/-! ### Incidents -/

/-- `closeSlot` changes nothing but incidents, journal, alert, exceptions, readers, ports. -/
@[simp] theorem closeSlot_frame (r : CloseReason) (i : SlotNo) (x : Incident) (s : State) :
    (closeSlot r i x s).pending = s.pending ∧ (closeSlot r i x s).clock = s.clock ∧
    (closeSlot r i x s).lines = s.lines ∧ (closeSlot r i x s).nextSample = s.nextSample ∧
    (closeSlot r i x s).fifo = s.fifo ∧ (closeSlot r i x s).rules = s.rules ∧
    (closeSlot r i x s).switch = s.switch ∧ (closeSlot r i x s).classifier = s.classifier ∧
    (closeSlot r i x s).rate = s.rate ∧ (closeSlot r i x s).spi = s.spi ∧
    (closeSlot r i x s).claim = s.claim ∧ (closeSlot r i x s).restart = s.restart ∧
    (closeSlot r i x s).resetCause = s.resetCause := by
  simp [closeSlot]

/-- `finishCall` changes nothing but incidents. -/
@[simp] theorem finishCall_frame (i : SlotNo) (x : Incident) (o : Bool) (r : Option CloseReason) (s : State) :
    ((finishCall i x o r s).1).pending = s.pending ∧ ((finishCall i x o r s).1).clock = s.clock ∧
    ((finishCall i x o r s).1).lines = s.lines ∧ ((finishCall i x o r s).1).nextSample = s.nextSample ∧
    ((finishCall i x o r s).1).fifo = s.fifo ∧ ((finishCall i x o r s).1).rules = s.rules ∧
    ((finishCall i x o r s).1).switch = s.switch ∧ ((finishCall i x o r s).1).classifier = s.classifier ∧
    ((finishCall i x o r s).1).journal = s.journal ∧ ((finishCall i x o r s).1).readers = s.readers ∧
    ((finishCall i x o r s).1).alert = s.alert ∧ ((finishCall i x o r s).1).exceptions = s.exceptions ∧
    ((finishCall i x o r s).1).ports = s.ports ∧ ((finishCall i x o r s).1).rate = s.rate ∧
    ((finishCall i x o r s).1).spi = s.spi ∧ ((finishCall i x o r s).1).claim = s.claim ∧
    ((finishCall i x o r s).1).restart = s.restart ∧ ((finishCall i x o r s).1).resetCause = s.resetCause := by
  simp only [finishCall]; (repeat' split) <;> simp

/-- `openCall` changes nothing but incidents, exceptions, ports. -/
@[simp] theorem openCall_frame (c : Call) (s : State) :
    ((openCall c s).1).pending = s.pending ∧ ((openCall c s).1).clock = s.clock ∧
    ((openCall c s).1).lines = s.lines ∧ ((openCall c s).1).nextSample = s.nextSample ∧
    ((openCall c s).1).fifo = s.fifo ∧ ((openCall c s).1).rules = s.rules ∧
    ((openCall c s).1).switch = s.switch ∧ ((openCall c s).1).classifier = s.classifier ∧
    ((openCall c s).1).journal = s.journal ∧ ((openCall c s).1).readers = s.readers ∧
    ((openCall c s).1).alert = s.alert ∧ ((openCall c s).1).rate = s.rate ∧
    ((openCall c s).1).spi = s.spi ∧ ((openCall c s).1).claim = s.claim ∧
    ((openCall c s).1).restart = s.restart ∧ ((openCall c s).1).resetCause = s.resetCause := by
  simp only [openCall]; (repeat' split) <;> simp

/-- `joinCall` changes nothing but incidents. -/
@[simp] theorem joinCall_frame (c : Call) (i : SlotNo) (x : Incident) (s : State) :
    ((joinCall c i x s).1).pending = s.pending ∧ ((joinCall c i x s).1).clock = s.clock ∧
    ((joinCall c i x s).1).lines = s.lines ∧ ((joinCall c i x s).1).nextSample = s.nextSample ∧
    ((joinCall c i x s).1).fifo = s.fifo ∧ ((joinCall c i x s).1).rules = s.rules ∧
    ((joinCall c i x s).1).switch = s.switch ∧ ((joinCall c i x s).1).classifier = s.classifier ∧
    ((joinCall c i x s).1).journal = s.journal ∧ ((joinCall c i x s).1).readers = s.readers ∧
    ((joinCall c i x s).1).alert = s.alert ∧ ((joinCall c i x s).1).exceptions = s.exceptions ∧
    ((joinCall c i x s).1).ports = s.ports ∧ ((joinCall c i x s).1).rate = s.rate ∧
    ((joinCall c i x s).1).spi = s.spi ∧ ((joinCall c i x s).1).claim = s.claim ∧
    ((joinCall c i x s).1).restart = s.restart ∧ ((joinCall c i x s).1).resetCause = s.resetCause := by
  simp only [joinCall]; (repeat' split) <;> simp

/-- `incidentCall` changes nothing but incidents, exceptions, ports. -/
@[simp] theorem incidentCall_frame (c : Call) (s : State) :
    ((incidentCall c s).1).pending = s.pending ∧ ((incidentCall c s).1).clock = s.clock ∧
    ((incidentCall c s).1).lines = s.lines ∧ ((incidentCall c s).1).nextSample = s.nextSample ∧
    ((incidentCall c s).1).fifo = s.fifo ∧ ((incidentCall c s).1).rules = s.rules ∧
    ((incidentCall c s).1).switch = s.switch ∧ ((incidentCall c s).1).classifier = s.classifier ∧
    ((incidentCall c s).1).journal = s.journal ∧ ((incidentCall c s).1).readers = s.readers ∧
    ((incidentCall c s).1).alert = s.alert ∧ ((incidentCall c s).1).rate = s.rate ∧
    ((incidentCall c s).1).spi = s.spi ∧ ((incidentCall c s).1).claim = s.claim ∧
    ((incidentCall c s).1).restart = s.restart ∧ ((incidentCall c s).1).resetCause = s.resetCause := by
  simp only [incidentCall]; (repeat' split) <;> simp

/-- `closeForSwitch` changes nothing but incidents, journal, alert, exceptions, readers, ports. -/
@[simp] theorem closeForSwitch_frame (acc : State × Nat) (i : SlotNo) :
    ((closeForSwitch acc i).1).pending = acc.1.pending ∧ ((closeForSwitch acc i).1).clock = acc.1.clock ∧
    ((closeForSwitch acc i).1).lines = acc.1.lines ∧ ((closeForSwitch acc i).1).nextSample = acc.1.nextSample ∧
    ((closeForSwitch acc i).1).fifo = acc.1.fifo ∧ ((closeForSwitch acc i).1).rules = acc.1.rules ∧
    ((closeForSwitch acc i).1).switch = acc.1.switch ∧ ((closeForSwitch acc i).1).classifier = acc.1.classifier ∧
    ((closeForSwitch acc i).1).rate = acc.1.rate ∧ ((closeForSwitch acc i).1).spi = acc.1.spi ∧
    ((closeForSwitch acc i).1).claim = acc.1.claim ∧ ((closeForSwitch acc i).1).restart = acc.1.restart ∧
    ((closeForSwitch acc i).1).resetCause = acc.1.resetCause := by
  simp only [closeForSwitch]; (repeat' split) <;> simp

/-! ### Classifier -/

/-- `callFor` changes nothing but incidents, exceptions, ports. -/
@[simp] theorem callFor_frame (r : LineRule) (x : EdgeInfo) (s : State) :
    ((callFor r x s).1).pending = s.pending ∧ ((callFor r x s).1).clock = s.clock ∧
    ((callFor r x s).1).lines = s.lines ∧ ((callFor r x s).1).nextSample = s.nextSample ∧
    ((callFor r x s).1).fifo = s.fifo ∧ ((callFor r x s).1).rules = s.rules ∧
    ((callFor r x s).1).switch = s.switch ∧ ((callFor r x s).1).classifier = s.classifier ∧
    ((callFor r x s).1).journal = s.journal ∧ ((callFor r x s).1).readers = s.readers ∧
    ((callFor r x s).1).alert = s.alert ∧ ((callFor r x s).1).rate = s.rate ∧
    ((callFor r x s).1).spi = s.spi ∧ ((callFor r x s).1).claim = s.claim ∧
    ((callFor r x s).1).restart = s.restart ∧ ((callFor r x s).1).resetCause = s.resetCause := by
  simp only [callFor]; (repeat' split) <;> simp

/-- `setClassified` changes nothing but classifier. -/
@[simp] theorem setClassified_frame (x : EdgeInfo) (s : State) :
    (setClassified x s).pending = s.pending ∧ (setClassified x s).clock = s.clock ∧
    (setClassified x s).lines = s.lines ∧ (setClassified x s).nextSample = s.nextSample ∧
    (setClassified x s).fifo = s.fifo ∧ (setClassified x s).rules = s.rules ∧
    (setClassified x s).switch = s.switch ∧ (setClassified x s).incidents = s.incidents ∧
    (setClassified x s).journal = s.journal ∧ (setClassified x s).readers = s.readers ∧
    (setClassified x s).alert = s.alert ∧ (setClassified x s).exceptions = s.exceptions ∧
    (setClassified x s).ports = s.ports ∧ (setClassified x s).rate = s.rate ∧
    (setClassified x s).spi = s.spi ∧ (setClassified x s).claim = s.claim ∧
    (setClassified x s).restart = s.restart ∧ (setClassified x s).resetCause = s.resetCause := by
  simp [setClassified]

/-- `buildLineChange` changes nothing but incidents, journal, alert, exceptions, readers, ports. -/
@[simp] theorem buildLineChange_frame (h : EntryInHand) (rest : List RecordToBuild) (s : State) :
    ((buildLineChange h rest s).1).pending = s.pending ∧ ((buildLineChange h rest s).1).clock = s.clock ∧
    ((buildLineChange h rest s).1).lines = s.lines ∧ ((buildLineChange h rest s).1).nextSample = s.nextSample ∧
    ((buildLineChange h rest s).1).fifo = s.fifo ∧ ((buildLineChange h rest s).1).rules = s.rules ∧
    ((buildLineChange h rest s).1).switch = s.switch ∧ ((buildLineChange h rest s).1).classifier = s.classifier ∧
    ((buildLineChange h rest s).1).rate = s.rate ∧ ((buildLineChange h rest s).1).spi = s.spi ∧
    ((buildLineChange h rest s).1).claim = s.claim ∧ ((buildLineChange h rest s).1).restart = s.restart ∧
    ((buildLineChange h rest s).1).resetCause = s.resetCause := by
  simp [buildLineChange]

/-- `buildChatterOn` changes nothing but classifier, journal, alert, exceptions, readers, ports. -/
@[simp] theorem buildChatterOn_frame (h : EntryInHand) (n : Nat) (s : State) :
    (buildChatterOn h n s).pending = s.pending ∧ (buildChatterOn h n s).clock = s.clock ∧
    (buildChatterOn h n s).lines = s.lines ∧ (buildChatterOn h n s).nextSample = s.nextSample ∧
    (buildChatterOn h n s).fifo = s.fifo ∧ (buildChatterOn h n s).rules = s.rules ∧
    (buildChatterOn h n s).switch = s.switch ∧ (buildChatterOn h n s).incidents = s.incidents ∧
    (buildChatterOn h n s).rate = s.rate ∧ (buildChatterOn h n s).spi = s.spi ∧
    (buildChatterOn h n s).claim = s.claim ∧ (buildChatterOn h n s).restart = s.restart ∧
    (buildChatterOn h n s).resetCause = s.resetCause := by
  simp [buildChatterOn]

/-- `buildRecord` changes nothing but incidents, classifier, journal, alert, exceptions, readers, ports. -/
@[simp] theorem buildRecord_frame (h : EntryInHand) (r : RecordToBuild) (rest : List RecordToBuild) (s : State) :
    ((buildRecord h r rest s).1).pending = s.pending ∧ ((buildRecord h r rest s).1).clock = s.clock ∧
    ((buildRecord h r rest s).1).lines = s.lines ∧ ((buildRecord h r rest s).1).nextSample = s.nextSample ∧
    ((buildRecord h r rest s).1).fifo = s.fifo ∧ ((buildRecord h r rest s).1).rules = s.rules ∧
    ((buildRecord h r rest s).1).switch = s.switch ∧ ((buildRecord h r rest s).1).rate = s.rate ∧
    ((buildRecord h r rest s).1).spi = s.spi ∧ ((buildRecord h r rest s).1).claim = s.claim ∧
    ((buildRecord h r rest s).1).restart = s.restart ∧ ((buildRecord h r rest s).1).resetCause = s.resetCause := by
  simp only [buildRecord]; split <;> simp

/-- `keepInHand` changes nothing but classifier. -/
@[simp] theorem keepInHand_frame (r : State × EntryInHand) :
    (keepInHand r).pending = r.1.pending ∧ (keepInHand r).clock = r.1.clock ∧
    (keepInHand r).lines = r.1.lines ∧ (keepInHand r).nextSample = r.1.nextSample ∧
    (keepInHand r).fifo = r.1.fifo ∧ (keepInHand r).rules = r.1.rules ∧
    (keepInHand r).switch = r.1.switch ∧ (keepInHand r).incidents = r.1.incidents ∧
    (keepInHand r).journal = r.1.journal ∧ (keepInHand r).readers = r.1.readers ∧
    (keepInHand r).alert = r.1.alert ∧ (keepInHand r).exceptions = r.1.exceptions ∧
    (keepInHand r).ports = r.1.ports ∧ (keepInHand r).rate = r.1.rate ∧
    (keepInHand r).spi = r.1.spi ∧ (keepInHand r).claim = r.1.claim ∧
    (keepInHand r).restart = r.1.restart ∧ (keepInHand r).resetCause = r.1.resetCause := by
  simp only [keepInHand]; split <;> simp

/-- `carryOn` changes nothing but incidents, classifier, journal, alert, exceptions, readers, ports. -/
@[simp] theorem carryOn_frame (h : EntryInHand) (s : State) :
    (carryOn h s).pending = s.pending ∧ (carryOn h s).clock = s.clock ∧
    (carryOn h s).lines = s.lines ∧ (carryOn h s).nextSample = s.nextSample ∧
    (carryOn h s).fifo = s.fifo ∧ (carryOn h s).rules = s.rules ∧
    (carryOn h s).switch = s.switch ∧ (carryOn h s).rate = s.rate ∧
    (carryOn h s).spi = s.spi ∧ (carryOn h s).claim = s.claim ∧
    (carryOn h s).restart = s.restart ∧ (carryOn h s).resetCause = s.resetCause := by
  simp only [carryOn]; split <;> simp

/-- `classifyChange` changes nothing but incidents, classifier, journal, alert, exceptions, readers, ports. -/
@[simp] theorem classifyChange_frame (r : LineRule) (e : ChangeEntry) (s : State) :
    (classifyChange r e s).pending = s.pending ∧ (classifyChange r e s).clock = s.clock ∧
    (classifyChange r e s).lines = s.lines ∧ (classifyChange r e s).nextSample = s.nextSample ∧
    (classifyChange r e s).fifo = s.fifo ∧ (classifyChange r e s).rules = s.rules ∧
    (classifyChange r e s).switch = s.switch ∧ (classifyChange r e s).rate = s.rate ∧
    (classifyChange r e s).spi = s.spi ∧ (classifyChange r e s).claim = s.claim ∧
    (classifyChange r e s).restart = s.restart ∧ (classifyChange r e s).resetCause = s.resetCause := by
  simp [classifyChange]

/-- `classifyRelease` changes nothing but incidents, classifier, journal, alert, exceptions, readers, ports. -/
@[simp] theorem classifyRelease_frame (r : LineRule) (e : ReleaseEntry) (s : State) :
    (classifyRelease r e s).pending = s.pending ∧ (classifyRelease r e s).clock = s.clock ∧
    (classifyRelease r e s).lines = s.lines ∧ (classifyRelease r e s).nextSample = s.nextSample ∧
    (classifyRelease r e s).fifo = s.fifo ∧ (classifyRelease r e s).rules = s.rules ∧
    (classifyRelease r e s).switch = s.switch ∧ (classifyRelease r e s).rate = s.rate ∧
    (classifyRelease r e s).spi = s.spi ∧ (classifyRelease r e s).claim = s.claim ∧
    (classifyRelease r e s).restart = s.restart ∧ (classifyRelease r e s).resetCause = s.resetCause := by
  simp only [classifyRelease]; split <;> simp

/-- `buildSnapshot` changes nothing but journal, alert, exceptions, readers, ports. -/
@[simp] theorem buildSnapshot_frame (m : MarkerInHand) (s : State) :
    (buildSnapshot m s).pending = s.pending ∧ (buildSnapshot m s).clock = s.clock ∧
    (buildSnapshot m s).lines = s.lines ∧ (buildSnapshot m s).nextSample = s.nextSample ∧
    (buildSnapshot m s).fifo = s.fifo ∧ (buildSnapshot m s).rules = s.rules ∧
    (buildSnapshot m s).switch = s.switch ∧ (buildSnapshot m s).classifier = s.classifier ∧
    (buildSnapshot m s).incidents = s.incidents ∧ (buildSnapshot m s).rate = s.rate ∧
    (buildSnapshot m s).spi = s.spi ∧ (buildSnapshot m s).claim = s.claim ∧
    (buildSnapshot m s).restart = s.restart ∧ (buildSnapshot m s).resetCause = s.resetCause := by
  simp [buildSnapshot]

/-- `classifyMarker` changes nothing but classifier, journal, alert, exceptions, readers, ports. -/
@[simp] theorem classifyMarker_frame (p : Port) (s : State) :
    (classifyMarker p s).pending = s.pending ∧ (classifyMarker p s).clock = s.clock ∧
    (classifyMarker p s).lines = s.lines ∧ (classifyMarker p s).nextSample = s.nextSample ∧
    (classifyMarker p s).fifo = s.fifo ∧ (classifyMarker p s).rules = s.rules ∧
    (classifyMarker p s).switch = s.switch ∧ (classifyMarker p s).incidents = s.incidents ∧
    (classifyMarker p s).rate = s.rate ∧ (classifyMarker p s).spi = s.spi ∧
    (classifyMarker p s).claim = s.claim ∧ (classifyMarker p s).restart = s.restart ∧
    (classifyMarker p s).resetCause = s.resetCause := by
  simp only [classifyMarker]; (repeat' split) <;> simp

/-- `classify` changes nothing but incidents, classifier, journal, alert, exceptions, readers, ports. -/
@[simp] theorem classify_frame (e : FifoEntry) (s : State) :
    (classify e s).pending = s.pending ∧ (classify e s).clock = s.clock ∧
    (classify e s).lines = s.lines ∧ (classify e s).nextSample = s.nextSample ∧
    (classify e s).fifo = s.fifo ∧ (classify e s).rules = s.rules ∧
    (classify e s).switch = s.switch ∧ (classify e s).rate = s.rate ∧
    (classify e s).spi = s.spi ∧ (classify e s).claim = s.claim ∧
    (classify e s).restart = s.restart ∧ (classify e s).resetCause = s.resetCause := by
  simp only [classify]; (repeat' split) <;> simp

/-! ### Front end -/

/-- `offerEntry` changes nothing but lines, fifo, exceptions, ports. -/
@[simp] theorem offerEntry_frame (i : LineNo) (e : FrontEntry) (s : State) :
    (offerEntry i e s).pending = s.pending ∧ (offerEntry i e s).clock = s.clock ∧
    (offerEntry i e s).nextSample = s.nextSample ∧ (offerEntry i e s).rules = s.rules ∧
    (offerEntry i e s).switch = s.switch ∧ (offerEntry i e s).classifier = s.classifier ∧
    (offerEntry i e s).incidents = s.incidents ∧ (offerEntry i e s).journal = s.journal ∧
    (offerEntry i e s).readers = s.readers ∧ (offerEntry i e s).alert = s.alert ∧
    (offerEntry i e s).rate = s.rate ∧ (offerEntry i e s).spi = s.spi ∧
    (offerEntry i e s).claim = s.claim ∧ (offerEntry i e s).restart = s.restart ∧
    (offerEntry i e s).resetCause = s.resetCause := by
  simp only [offerEntry]; (repeat' split) <;> simp

/-- `admitLine` changes nothing but lines, fifo. -/
@[simp] theorem admitLine_frame (s : State) (i : LineNo) :
    (admitLine s i).pending = s.pending ∧ (admitLine s i).clock = s.clock ∧
    (admitLine s i).nextSample = s.nextSample ∧ (admitLine s i).rules = s.rules ∧
    (admitLine s i).switch = s.switch ∧ (admitLine s i).classifier = s.classifier ∧
    (admitLine s i).incidents = s.incidents ∧ (admitLine s i).journal = s.journal ∧
    (admitLine s i).readers = s.readers ∧ (admitLine s i).alert = s.alert ∧
    (admitLine s i).exceptions = s.exceptions ∧ (admitLine s i).ports = s.ports ∧
    (admitLine s i).rate = s.rate ∧ (admitLine s i).spi = s.spi ∧
    (admitLine s i).claim = s.claim ∧ (admitLine s i).restart = s.restart ∧
    (admitLine s i).resetCause = s.resetCause := by
  simp only [admitLine]; (repeat' split) <;> simp

/-- `lockOut` changes nothing but lines, fifo, exceptions, ports. -/
@[simp] theorem lockOut_frame (i : LineNo) (l : Level) (e : FrontEntry) (s : State) :
    (lockOut i l e s).pending = s.pending ∧ (lockOut i l e s).clock = s.clock ∧
    (lockOut i l e s).nextSample = s.nextSample ∧ (lockOut i l e s).rules = s.rules ∧
    (lockOut i l e s).switch = s.switch ∧ (lockOut i l e s).classifier = s.classifier ∧
    (lockOut i l e s).incidents = s.incidents ∧ (lockOut i l e s).journal = s.journal ∧
    (lockOut i l e s).readers = s.readers ∧ (lockOut i l e s).alert = s.alert ∧
    (lockOut i l e s).rate = s.rate ∧ (lockOut i l e s).spi = s.spi ∧
    (lockOut i l e s).claim = s.claim ∧ (lockOut i l e s).restart = s.restart ∧
    (lockOut i l e s).resetCause = s.resetCause := by
  simp only [lockOut]; (repeat' split) <;> simp

/-- `confirmChange` changes nothing but lines, fifo, exceptions, ports. -/
@[simp] theorem confirmChange_frame (i : LineNo) (l : Level) (t : Stamp) (u : Uptime) (s : State) :
    (confirmChange i l t u s).pending = s.pending ∧ (confirmChange i l t u s).clock = s.clock ∧
    (confirmChange i l t u s).nextSample = s.nextSample ∧ (confirmChange i l t u s).rules = s.rules ∧
    (confirmChange i l t u s).switch = s.switch ∧ (confirmChange i l t u s).classifier = s.classifier ∧
    (confirmChange i l t u s).incidents = s.incidents ∧ (confirmChange i l t u s).journal = s.journal ∧
    (confirmChange i l t u s).readers = s.readers ∧ (confirmChange i l t u s).alert = s.alert ∧
    (confirmChange i l t u s).rate = s.rate ∧ (confirmChange i l t u s).spi = s.spi ∧
    (confirmChange i l t u s).claim = s.claim ∧ (confirmChange i l t u s).restart = s.restart ∧
    (confirmChange i l t u s).resetCause = s.resetCause := by
  simp only [confirmChange]; (repeat' split) <;> simp

/-- `primeLine` changes nothing but lines, classifier. -/
@[simp] theorem primeLine_frame (i : LineNo) (l : Level) (s : State) :
    (primeLine i l s).pending = s.pending ∧ (primeLine i l s).clock = s.clock ∧
    (primeLine i l s).nextSample = s.nextSample ∧ (primeLine i l s).fifo = s.fifo ∧
    (primeLine i l s).rules = s.rules ∧ (primeLine i l s).switch = s.switch ∧
    (primeLine i l s).incidents = s.incidents ∧ (primeLine i l s).journal = s.journal ∧
    (primeLine i l s).readers = s.readers ∧ (primeLine i l s).alert = s.alert ∧
    (primeLine i l s).exceptions = s.exceptions ∧ (primeLine i l s).ports = s.ports ∧
    (primeLine i l s).rate = s.rate ∧ (primeLine i l s).spi = s.spi ∧
    (primeLine i l s).claim = s.claim ∧ (primeLine i l s).restart = s.restart ∧
    (primeLine i l s).resetCause = s.resetCause := by
  simp [primeLine]

/-- `startConfirmation` changes nothing but lines, fifo, exceptions, ports. -/
@[simp] theorem startConfirmation_frame (i : LineNo) (l : Level) (s : State) :
    (startConfirmation i l s).pending = s.pending ∧ (startConfirmation i l s).clock = s.clock ∧
    (startConfirmation i l s).nextSample = s.nextSample ∧ (startConfirmation i l s).rules = s.rules ∧
    (startConfirmation i l s).switch = s.switch ∧ (startConfirmation i l s).classifier = s.classifier ∧
    (startConfirmation i l s).incidents = s.incidents ∧ (startConfirmation i l s).journal = s.journal ∧
    (startConfirmation i l s).readers = s.readers ∧ (startConfirmation i l s).alert = s.alert ∧
    (startConfirmation i l s).rate = s.rate ∧ (startConfirmation i l s).spi = s.spi ∧
    (startConfirmation i l s).claim = s.claim ∧ (startConfirmation i l s).restart = s.restart ∧
    (startConfirmation i l s).resetCause = s.resetCause := by
  simp only [startConfirmation]; (repeat' split) <;> simp

/-- `takeConfirming` changes nothing but lines, fifo, exceptions, ports. -/
@[simp] theorem takeConfirming_frame (i : LineNo) (l : Level) (n : Nat) (t : Stamp) (u : Uptime) (s : State) :
    (takeConfirming i l n t u s).pending = s.pending ∧ (takeConfirming i l n t u s).clock = s.clock ∧
    (takeConfirming i l n t u s).nextSample = s.nextSample ∧ (takeConfirming i l n t u s).rules = s.rules ∧
    (takeConfirming i l n t u s).switch = s.switch ∧ (takeConfirming i l n t u s).classifier = s.classifier ∧
    (takeConfirming i l n t u s).incidents = s.incidents ∧ (takeConfirming i l n t u s).journal = s.journal ∧
    (takeConfirming i l n t u s).readers = s.readers ∧ (takeConfirming i l n t u s).alert = s.alert ∧
    (takeConfirming i l n t u s).rate = s.rate ∧ (takeConfirming i l n t u s).spi = s.spi ∧
    (takeConfirming i l n t u s).claim = s.claim ∧ (takeConfirming i l n t u s).restart = s.restart ∧
    (takeConfirming i l n t u s).resetCause = s.resetCause := by
  simp only [takeConfirming]; (repeat' split) <;> simp

/-- `takeLockedOut` changes nothing but lines. -/
@[simp] theorem takeLockedOut_frame (i : LineNo) (c : Bool) (s : State) :
    (takeLockedOut i c s).pending = s.pending ∧ (takeLockedOut i c s).clock = s.clock ∧
    (takeLockedOut i c s).nextSample = s.nextSample ∧ (takeLockedOut i c s).fifo = s.fifo ∧
    (takeLockedOut i c s).rules = s.rules ∧ (takeLockedOut i c s).switch = s.switch ∧
    (takeLockedOut i c s).classifier = s.classifier ∧ (takeLockedOut i c s).incidents = s.incidents ∧
    (takeLockedOut i c s).journal = s.journal ∧ (takeLockedOut i c s).readers = s.readers ∧
    (takeLockedOut i c s).alert = s.alert ∧ (takeLockedOut i c s).exceptions = s.exceptions ∧
    (takeLockedOut i c s).ports = s.ports ∧ (takeLockedOut i c s).rate = s.rate ∧
    (takeLockedOut i c s).spi = s.spi ∧ (takeLockedOut i c s).claim = s.claim ∧
    (takeLockedOut i c s).restart = s.restart ∧ (takeLockedOut i c s).resetCause = s.resetCause := by
  simp only [takeLockedOut]; (repeat' split) <;> simp

/-- `takeSample` changes nothing but lines, fifo, exceptions, ports, classifier. -/
@[simp] theorem takeSample_frame (i : LineNo) (l : Level) (c : Bool) (s : State) :
    (takeSample i l c s).pending = s.pending ∧ (takeSample i l c s).clock = s.clock ∧
    (takeSample i l c s).nextSample = s.nextSample ∧ (takeSample i l c s).rules = s.rules ∧
    (takeSample i l c s).switch = s.switch ∧ (takeSample i l c s).incidents = s.incidents ∧
    (takeSample i l c s).journal = s.journal ∧ (takeSample i l c s).readers = s.readers ∧
    (takeSample i l c s).alert = s.alert ∧ (takeSample i l c s).rate = s.rate ∧
    (takeSample i l c s).spi = s.spi ∧ (takeSample i l c s).claim = s.claim ∧
    (takeSample i l c s).restart = s.restart ∧ (takeSample i l c s).resetCause = s.resetCause := by
  simp only [takeSample]; (repeat' split) <;> simp

/-- `sampleLine` changes nothing but lines, fifo, exceptions, ports, classifier. -/
@[simp] theorem sampleLine_frame (pins : BitVec 32) (s : State) (i : LineNo) :
    (sampleLine pins s i).pending = s.pending ∧ (sampleLine pins s i).clock = s.clock ∧
    (sampleLine pins s i).nextSample = s.nextSample ∧ (sampleLine pins s i).rules = s.rules ∧
    (sampleLine pins s i).switch = s.switch ∧ (sampleLine pins s i).incidents = s.incidents ∧
    (sampleLine pins s i).journal = s.journal ∧ (sampleLine pins s i).readers = s.readers ∧
    (sampleLine pins s i).alert = s.alert ∧ (sampleLine pins s i).rate = s.rate ∧
    (sampleLine pins s i).spi = s.spi ∧ (sampleLine pins s i).claim = s.claim ∧
    (sampleLine pins s i).restart = s.restart ∧ (sampleLine pins s i).resetCause = s.resetCause := by
  simp only [sampleLine]; (repeat' split) <;> simp

/-- `releaseLine` changes nothing but lines, fifo, exceptions, ports. -/
@[simp] theorem releaseLine_frame (i : LineNo) (l : Level) (s : State) :
    (releaseLine i l s).pending = s.pending ∧ (releaseLine i l s).clock = s.clock ∧
    (releaseLine i l s).nextSample = s.nextSample ∧ (releaseLine i l s).rules = s.rules ∧
    (releaseLine i l s).switch = s.switch ∧ (releaseLine i l s).classifier = s.classifier ∧
    (releaseLine i l s).incidents = s.incidents ∧ (releaseLine i l s).journal = s.journal ∧
    (releaseLine i l s).readers = s.readers ∧ (releaseLine i l s).alert = s.alert ∧
    (releaseLine i l s).rate = s.rate ∧ (releaseLine i l s).spi = s.spi ∧
    (releaseLine i l s).claim = s.claim ∧ (releaseLine i l s).restart = s.restart ∧
    (releaseLine i l s).resetCause = s.resetCause := by
  simp [releaseLine]

/-! ### Time base -/

/-- All that the holdover expiry can do: nothing, or in HOLDOVER past the deadline make the time FREE (R99). -/
theorem expireHoldover_cases (c : TimeBase) :
    c.expireHoldover = c ∨ c.quality = .holdover ∧
      (∃ h, c.holdover = some h ∧ reached c.uptime h.deadline = true) ∧
      c.expireHoldover = { c with quality := .free, holdover := none } := by
  unfold TimeBase.expireHoldover
  split
  · rename_i h
    cases hd : c.holdover <;> simp_all [expired]
  · exact .inl rfl

/-- `reportQuality` changes nothing but journal, alert, exceptions, readers, ports. -/
@[simp] theorem reportQuality_frame (q : Quality) (s : State) :
    (reportQuality q s).pending = s.pending ∧ (reportQuality q s).clock = s.clock ∧
    (reportQuality q s).lines = s.lines ∧ (reportQuality q s).nextSample = s.nextSample ∧
    (reportQuality q s).fifo = s.fifo ∧ (reportQuality q s).rules = s.rules ∧
    (reportQuality q s).switch = s.switch ∧ (reportQuality q s).classifier = s.classifier ∧
    (reportQuality q s).incidents = s.incidents ∧ (reportQuality q s).rate = s.rate ∧
    (reportQuality q s).spi = s.spi ∧ (reportQuality q s).claim = s.claim ∧
    (reportQuality q s).restart = s.restart ∧ (reportQuality q s).resetCause = s.resetCause := by
  simp only [reportQuality]; (repeat' split) <;> simp

/-- `reportStep` changes nothing but journal, alert, exceptions, readers, ports. -/
@[simp] theorem reportStep_frame (c : Option Int) (s : State) :
    (reportStep c s).pending = s.pending ∧ (reportStep c s).clock = s.clock ∧
    (reportStep c s).lines = s.lines ∧ (reportStep c s).nextSample = s.nextSample ∧
    (reportStep c s).fifo = s.fifo ∧ (reportStep c s).rules = s.rules ∧
    (reportStep c s).switch = s.switch ∧ (reportStep c s).classifier = s.classifier ∧
    (reportStep c s).incidents = s.incidents ∧ (reportStep c s).rate = s.rate ∧
    (reportStep c s).spi = s.spi ∧ (reportStep c s).claim = s.claim ∧
    (reportStep c s).restart = s.restart ∧ (reportStep c s).resetCause = s.resetCause := by
  simp only [reportStep]; (repeat' split) <;> simp

/-- `takePulse` changes nothing but clock, journal, alert, exceptions, readers, ports. -/
@[simp] theorem takePulse_frame (s : State) :
    (takePulse s).pending = s.pending ∧ (takePulse s).lines = s.lines ∧
    (takePulse s).nextSample = s.nextSample ∧ (takePulse s).fifo = s.fifo ∧
    (takePulse s).rules = s.rules ∧ (takePulse s).switch = s.switch ∧
    (takePulse s).classifier = s.classifier ∧ (takePulse s).incidents = s.incidents ∧
    (takePulse s).rate = s.rate ∧ (takePulse s).spi = s.spi ∧
    (takePulse s).claim = s.claim ∧ (takePulse s).restart = s.restart ∧
    (takePulse s).resetCause = s.resetCause := by
  simp [takePulse]

/-- `setTimeTo` changes nothing but clock, journal, alert, exceptions, readers, ports. -/
@[simp] theorem setTimeTo_frame (t : TimeOfDay) (s : State) :
    (setTimeTo t s).pending = s.pending ∧ (setTimeTo t s).lines = s.lines ∧
    (setTimeTo t s).nextSample = s.nextSample ∧ (setTimeTo t s).fifo = s.fifo ∧
    (setTimeTo t s).rules = s.rules ∧ (setTimeTo t s).switch = s.switch ∧
    (setTimeTo t s).classifier = s.classifier ∧ (setTimeTo t s).incidents = s.incidents ∧
    (setTimeTo t s).rate = s.rate ∧ (setTimeTo t s).spi = s.spi ∧
    (setTimeTo t s).claim = s.claim ∧ (setTimeTo t s).restart = s.restart ∧
    (setTimeTo t s).resetCause = s.resetCause := by
  simp [setTimeTo]

/-- `writeOptions` changes nothing but clock, switch, journal, alert, exceptions, readers, ports. -/
@[simp] theorem writeOptions_frame (o : TimeOptions) (s : State) :
    (writeOptions o s).pending = s.pending ∧ (writeOptions o s).lines = s.lines ∧
    (writeOptions o s).nextSample = s.nextSample ∧ (writeOptions o s).fifo = s.fifo ∧
    (writeOptions o s).rules = s.rules ∧ (writeOptions o s).classifier = s.classifier ∧
    (writeOptions o s).incidents = s.incidents ∧ (writeOptions o s).rate = s.rate ∧
    (writeOptions o s).spi = s.spi ∧ (writeOptions o s).claim = s.claim ∧
    (writeOptions o s).restart = s.restart ∧ (writeOptions o s).resetCause = s.resetCause := by
  simp [writeOptions]

/-! ### Delivery -/

/-- `subscribeReader` changes nothing but journal, readers, ports. -/
@[simp] theorem subscribeReader_frame (p : Port) (f : SubscribeFields) (n : Seq) (s : State) :
    (subscribeReader p f n s).pending = s.pending ∧ (subscribeReader p f n s).clock = s.clock ∧
    (subscribeReader p f n s).lines = s.lines ∧ (subscribeReader p f n s).nextSample = s.nextSample ∧
    (subscribeReader p f n s).fifo = s.fifo ∧ (subscribeReader p f n s).rules = s.rules ∧
    (subscribeReader p f n s).switch = s.switch ∧ (subscribeReader p f n s).classifier = s.classifier ∧
    (subscribeReader p f n s).incidents = s.incidents ∧ (subscribeReader p f n s).alert = s.alert ∧
    (subscribeReader p f n s).exceptions = s.exceptions ∧ (subscribeReader p f n s).rate = s.rate ∧
    (subscribeReader p f n s).spi = s.spi ∧ (subscribeReader p f n s).claim = s.claim ∧
    (subscribeReader p f n s).restart = s.restart ∧ (subscribeReader p f n s).resetCause = s.resetCause := by
  simp [subscribeReader]

/-- `retransmitExpiry` changes nothing but readers, ports, exceptions. -/
@[simp] theorem retransmitExpiry_frame (p : Port) (s : State) :
    (retransmitExpiry p s).pending = s.pending ∧ (retransmitExpiry p s).clock = s.clock ∧
    (retransmitExpiry p s).lines = s.lines ∧ (retransmitExpiry p s).nextSample = s.nextSample ∧
    (retransmitExpiry p s).fifo = s.fifo ∧ (retransmitExpiry p s).rules = s.rules ∧
    (retransmitExpiry p s).switch = s.switch ∧ (retransmitExpiry p s).classifier = s.classifier ∧
    (retransmitExpiry p s).incidents = s.incidents ∧ (retransmitExpiry p s).journal = s.journal ∧
    (retransmitExpiry p s).alert = s.alert ∧ (retransmitExpiry p s).rate = s.rate ∧
    (retransmitExpiry p s).spi = s.spi ∧ (retransmitExpiry p s).claim = s.claim ∧
    (retransmitExpiry p s).restart = s.restart ∧ (retransmitExpiry p s).resetCause = s.resetCause := by
  simp only [retransmitExpiry]; (repeat' split) <;> simp

/-! ### Switch controller -/

/-- `endSwitch` changes nothing but switch. -/
@[simp] theorem endSwitch_frame (o : SwitchOutcome) (s : State) :
    (endSwitch o s).pending = s.pending ∧ (endSwitch o s).clock = s.clock ∧
    (endSwitch o s).lines = s.lines ∧ (endSwitch o s).nextSample = s.nextSample ∧
    (endSwitch o s).fifo = s.fifo ∧ (endSwitch o s).rules = s.rules ∧
    (endSwitch o s).classifier = s.classifier ∧ (endSwitch o s).incidents = s.incidents ∧
    (endSwitch o s).journal = s.journal ∧ (endSwitch o s).readers = s.readers ∧
    (endSwitch o s).alert = s.alert ∧ (endSwitch o s).exceptions = s.exceptions ∧
    (endSwitch o s).ports = s.ports ∧ (endSwitch o s).rate = s.rate ∧
    (endSwitch o s).spi = s.spi ∧ (endSwitch o s).claim = s.claim ∧
    (endSwitch o s).restart = s.restart ∧ (endSwitch o s).resetCause = s.resetCause := by
  simp [endSwitch]

/-- `offerSwitchDone` changes nothing but ports. -/
@[simp] theorem offerSwitchDone_frame (s : State) :
    (offerSwitchDone s).pending = s.pending ∧ (offerSwitchDone s).clock = s.clock ∧
    (offerSwitchDone s).lines = s.lines ∧ (offerSwitchDone s).nextSample = s.nextSample ∧
    (offerSwitchDone s).fifo = s.fifo ∧ (offerSwitchDone s).rules = s.rules ∧
    (offerSwitchDone s).switch = s.switch ∧ (offerSwitchDone s).classifier = s.classifier ∧
    (offerSwitchDone s).incidents = s.incidents ∧ (offerSwitchDone s).journal = s.journal ∧
    (offerSwitchDone s).readers = s.readers ∧ (offerSwitchDone s).alert = s.alert ∧
    (offerSwitchDone s).exceptions = s.exceptions ∧ (offerSwitchDone s).rate = s.rate ∧
    (offerSwitchDone s).spi = s.spi ∧ (offerSwitchDone s).claim = s.claim ∧
    (offerSwitchDone s).restart = s.restart ∧ (offerSwitchDone s).resetCause = s.resetCause := by
  simp only [offerSwitchDone]; (repeat' split) <;> simp

/-- `rejectSwitch` changes nothing but switch, exceptions, ports. -/
@[simp] theorem rejectSwitch_frame (r : Rejection) (s : State) :
    (rejectSwitch r s).pending = s.pending ∧ (rejectSwitch r s).clock = s.clock ∧
    (rejectSwitch r s).lines = s.lines ∧ (rejectSwitch r s).nextSample = s.nextSample ∧
    (rejectSwitch r s).fifo = s.fifo ∧ (rejectSwitch r s).rules = s.rules ∧
    (rejectSwitch r s).classifier = s.classifier ∧ (rejectSwitch r s).incidents = s.incidents ∧
    (rejectSwitch r s).journal = s.journal ∧ (rejectSwitch r s).readers = s.readers ∧
    (rejectSwitch r s).alert = s.alert ∧ (rejectSwitch r s).rate = s.rate ∧
    (rejectSwitch r s).spi = s.spi ∧ (rejectSwitch r s).claim = s.claim ∧
    (rejectSwitch r s).restart = s.restart ∧ (rejectSwitch r s).resetCause = s.resetCause := by
  simp [rejectSwitch]

/-- `exchangeBanks` changes nothing but rules. -/
@[simp] theorem exchangeBanks_frame (s : State) :
    (exchangeBanks s).pending = s.pending ∧ (exchangeBanks s).clock = s.clock ∧
    (exchangeBanks s).lines = s.lines ∧ (exchangeBanks s).nextSample = s.nextSample ∧
    (exchangeBanks s).fifo = s.fifo ∧ (exchangeBanks s).switch = s.switch ∧
    (exchangeBanks s).classifier = s.classifier ∧ (exchangeBanks s).incidents = s.incidents ∧
    (exchangeBanks s).journal = s.journal ∧ (exchangeBanks s).readers = s.readers ∧
    (exchangeBanks s).alert = s.alert ∧ (exchangeBanks s).exceptions = s.exceptions ∧
    (exchangeBanks s).ports = s.ports ∧ (exchangeBanks s).rate = s.rate ∧
    (exchangeBanks s).spi = s.spi ∧ (exchangeBanks s).claim = s.claim ∧
    (exchangeBanks s).restart = s.restart ∧ (exchangeBanks s).resetCause = s.resetCause := by
  simp [exchangeBanks]

/-- `frontEndLine` changes nothing but lines. -/
@[simp] theorem frontEndLine_frame (b : Bank) (s : State) (i : LineNo) :
    (frontEndLine b s i).pending = s.pending ∧ (frontEndLine b s i).clock = s.clock ∧
    (frontEndLine b s i).nextSample = s.nextSample ∧ (frontEndLine b s i).fifo = s.fifo ∧
    (frontEndLine b s i).rules = s.rules ∧ (frontEndLine b s i).switch = s.switch ∧
    (frontEndLine b s i).classifier = s.classifier ∧ (frontEndLine b s i).incidents = s.incidents ∧
    (frontEndLine b s i).journal = s.journal ∧ (frontEndLine b s i).readers = s.readers ∧
    (frontEndLine b s i).alert = s.alert ∧ (frontEndLine b s i).exceptions = s.exceptions ∧
    (frontEndLine b s i).ports = s.ports ∧ (frontEndLine b s i).rate = s.rate ∧
    (frontEndLine b s i).spi = s.spi ∧ (frontEndLine b s i).claim = s.claim ∧
    (frontEndLine b s i).restart = s.restart ∧ (frontEndLine b s i).resetCause = s.resetCause := by
  simp [frontEndLine]

/-- `switchPeriod` changes nothing but nextSample. -/
@[simp] theorem switchPeriod_frame (b : Bank) (s : State) :
    (switchPeriod b s).pending = s.pending ∧ (switchPeriod b s).clock = s.clock ∧
    (switchPeriod b s).lines = s.lines ∧ (switchPeriod b s).fifo = s.fifo ∧
    (switchPeriod b s).rules = s.rules ∧ (switchPeriod b s).switch = s.switch ∧
    (switchPeriod b s).classifier = s.classifier ∧ (switchPeriod b s).incidents = s.incidents ∧
    (switchPeriod b s).journal = s.journal ∧ (switchPeriod b s).readers = s.readers ∧
    (switchPeriod b s).alert = s.alert ∧ (switchPeriod b s).exceptions = s.exceptions ∧
    (switchPeriod b s).ports = s.ports ∧ (switchPeriod b s).rate = s.rate ∧
    (switchPeriod b s).spi = s.spi ∧ (switchPeriod b s).claim = s.claim ∧
    (switchPeriod b s).restart = s.restart ∧ (switchPeriod b s).resetCause = s.resetCause := by
  simp only [switchPeriod]; (repeat' split) <;> simp

/-- `classifierSwitch` changes nothing but classifier. -/
@[simp] theorem classifierSwitch_frame (b : Bank) (s : State) :
    (classifierSwitch b s).pending = s.pending ∧ (classifierSwitch b s).clock = s.clock ∧
    (classifierSwitch b s).lines = s.lines ∧ (classifierSwitch b s).nextSample = s.nextSample ∧
    (classifierSwitch b s).fifo = s.fifo ∧ (classifierSwitch b s).rules = s.rules ∧
    (classifierSwitch b s).switch = s.switch ∧ (classifierSwitch b s).incidents = s.incidents ∧
    (classifierSwitch b s).journal = s.journal ∧ (classifierSwitch b s).readers = s.readers ∧
    (classifierSwitch b s).alert = s.alert ∧ (classifierSwitch b s).exceptions = s.exceptions ∧
    (classifierSwitch b s).ports = s.ports ∧ (classifierSwitch b s).rate = s.rate ∧
    (classifierSwitch b s).spi = s.spi ∧ (classifierSwitch b s).claim = s.claim ∧
    (classifierSwitch b s).restart = s.restart ∧ (classifierSwitch b s).resetCause = s.resetCause := by
  simp [classifierSwitch]

/-! ### Ports and sessions -/

/-- `touchSession` changes nothing but ports. -/
@[simp] theorem touchSession_frame (p : Port) (s : State) :
    (touchSession p s).pending = s.pending ∧ (touchSession p s).clock = s.clock ∧
    (touchSession p s).lines = s.lines ∧ (touchSession p s).nextSample = s.nextSample ∧
    (touchSession p s).fifo = s.fifo ∧ (touchSession p s).rules = s.rules ∧
    (touchSession p s).switch = s.switch ∧ (touchSession p s).classifier = s.classifier ∧
    (touchSession p s).incidents = s.incidents ∧ (touchSession p s).journal = s.journal ∧
    (touchSession p s).readers = s.readers ∧ (touchSession p s).alert = s.alert ∧
    (touchSession p s).exceptions = s.exceptions ∧ (touchSession p s).rate = s.rate ∧
    (touchSession p s).spi = s.spi ∧ (touchSession p s).claim = s.claim ∧
    (touchSession p s).restart = s.restart ∧ (touchSession p s).resetCause = s.resetCause := by
  simp only [touchSession]; (repeat' split) <;> simp

/-- `requestArrival` changes nothing but ports. -/
@[simp] theorem requestArrival_frame (p : Port) (q : Request) (s : State) :
    (requestArrival p q s).pending = s.pending ∧ (requestArrival p q s).clock = s.clock ∧
    (requestArrival p q s).lines = s.lines ∧ (requestArrival p q s).nextSample = s.nextSample ∧
    (requestArrival p q s).fifo = s.fifo ∧ (requestArrival p q s).rules = s.rules ∧
    (requestArrival p q s).switch = s.switch ∧ (requestArrival p q s).classifier = s.classifier ∧
    (requestArrival p q s).incidents = s.incidents ∧ (requestArrival p q s).journal = s.journal ∧
    (requestArrival p q s).readers = s.readers ∧ (requestArrival p q s).alert = s.alert ∧
    (requestArrival p q s).exceptions = s.exceptions ∧ (requestArrival p q s).rate = s.rate ∧
    (requestArrival p q s).spi = s.spi ∧ (requestArrival p q s).claim = s.claim ∧
    (requestArrival p q s).restart = s.restart ∧ (requestArrival p q s).resetCause = s.resetCause := by
  simp only [requestArrival]; (repeat' split) <;> simp

/-- `acceptFrame` changes nothing but ports. -/
@[simp] theorem acceptFrame_frame (p : Port) (q : Request) (s : State) :
    (acceptFrame p q s).pending = s.pending ∧ (acceptFrame p q s).clock = s.clock ∧
    (acceptFrame p q s).lines = s.lines ∧ (acceptFrame p q s).nextSample = s.nextSample ∧
    (acceptFrame p q s).fifo = s.fifo ∧ (acceptFrame p q s).rules = s.rules ∧
    (acceptFrame p q s).switch = s.switch ∧ (acceptFrame p q s).classifier = s.classifier ∧
    (acceptFrame p q s).incidents = s.incidents ∧ (acceptFrame p q s).journal = s.journal ∧
    (acceptFrame p q s).readers = s.readers ∧ (acceptFrame p q s).alert = s.alert ∧
    (acceptFrame p q s).exceptions = s.exceptions ∧ (acceptFrame p q s).rate = s.rate ∧
    (acceptFrame p q s).spi = s.spi ∧ (acceptFrame p q s).claim = s.claim ∧
    (acceptFrame p q s).restart = s.restart ∧ (acceptFrame p q s).resetCause = s.resetCause := by
  simp only [acceptFrame]; (repeat' split) <;> simp

/-- `rxEvent` changes nothing but exceptions, ports. -/
@[simp] theorem rxEvent_frame (p : Port) (s : State) (e : RxEvent) :
    (rxEvent p s e).pending = s.pending ∧ (rxEvent p s e).clock = s.clock ∧
    (rxEvent p s e).lines = s.lines ∧ (rxEvent p s e).nextSample = s.nextSample ∧
    (rxEvent p s e).fifo = s.fifo ∧ (rxEvent p s e).rules = s.rules ∧
    (rxEvent p s e).switch = s.switch ∧ (rxEvent p s e).classifier = s.classifier ∧
    (rxEvent p s e).incidents = s.incidents ∧ (rxEvent p s e).journal = s.journal ∧
    (rxEvent p s e).readers = s.readers ∧ (rxEvent p s e).alert = s.alert ∧
    (rxEvent p s e).rate = s.rate ∧ (rxEvent p s e).spi = s.spi ∧
    (rxEvent p s e).claim = s.claim ∧ (rxEvent p s e).restart = s.restart ∧
    (rxEvent p s e).resetCause = s.resetCause := by
  cases e <;> simp [rxEvent]

/-- `setReceiver` changes nothing but ports. -/
@[simp] theorem setReceiver_frame (p : Port) (r : Receiver) (s : State) :
    (setReceiver p r s).pending = s.pending ∧ (setReceiver p r s).clock = s.clock ∧
    (setReceiver p r s).lines = s.lines ∧ (setReceiver p r s).nextSample = s.nextSample ∧
    (setReceiver p r s).fifo = s.fifo ∧ (setReceiver p r s).rules = s.rules ∧
    (setReceiver p r s).switch = s.switch ∧ (setReceiver p r s).classifier = s.classifier ∧
    (setReceiver p r s).incidents = s.incidents ∧ (setReceiver p r s).journal = s.journal ∧
    (setReceiver p r s).readers = s.readers ∧ (setReceiver p r s).alert = s.alert ∧
    (setReceiver p r s).exceptions = s.exceptions ∧ (setReceiver p r s).rate = s.rate ∧
    (setReceiver p r s).spi = s.spi ∧ (setReceiver p r s).claim = s.claim ∧
    (setReceiver p r s).restart = s.restart ∧ (setReceiver p r s).resetCause = s.resetCause := by
  simp only [setReceiver]; (repeat' split) <;> simp

/-- `beginFrame` changes nothing but ports. -/
@[simp] theorem beginFrame_frame (p : Port) (s : State) :
    (beginFrame p s).pending = s.pending ∧ (beginFrame p s).clock = s.clock ∧
    (beginFrame p s).lines = s.lines ∧ (beginFrame p s).nextSample = s.nextSample ∧
    (beginFrame p s).fifo = s.fifo ∧ (beginFrame p s).rules = s.rules ∧
    (beginFrame p s).switch = s.switch ∧ (beginFrame p s).classifier = s.classifier ∧
    (beginFrame p s).incidents = s.incidents ∧ (beginFrame p s).journal = s.journal ∧
    (beginFrame p s).readers = s.readers ∧ (beginFrame p s).alert = s.alert ∧
    (beginFrame p s).exceptions = s.exceptions ∧ (beginFrame p s).rate = s.rate ∧
    (beginFrame p s).spi = s.spi ∧
    (beginFrame p s).claim = s.claim ∧ (beginFrame p s).restart = s.restart ∧
    (beginFrame p s).resetCause = s.resetCause := by
  simp only [beginFrame]; (repeat' split) <;> simp

/-- `readyPortB` changes nothing but ports. -/
@[simp] theorem readyPortB_frame (s : State) :
    (readyPortB s).pending = s.pending ∧ (readyPortB s).clock = s.clock ∧
    (readyPortB s).lines = s.lines ∧ (readyPortB s).nextSample = s.nextSample ∧
    (readyPortB s).fifo = s.fifo ∧ (readyPortB s).rules = s.rules ∧
    (readyPortB s).switch = s.switch ∧ (readyPortB s).classifier = s.classifier ∧
    (readyPortB s).incidents = s.incidents ∧ (readyPortB s).journal = s.journal ∧
    (readyPortB s).readers = s.readers ∧ (readyPortB s).alert = s.alert ∧
    (readyPortB s).exceptions = s.exceptions ∧ (readyPortB s).rate = s.rate ∧
    (readyPortB s).spi = s.spi ∧
    (readyPortB s).claim = s.claim ∧ (readyPortB s).restart = s.restart ∧
    (readyPortB s).resetCause = s.resetCause := by
  simp only [readyPortB]; (repeat' split) <;> simp

/-- `clockOut` changes nothing but spi, ports. -/
@[simp] theorem clockOut_frame (s : State) :
    (clockOut s).pending = s.pending ∧ (clockOut s).clock = s.clock ∧
    (clockOut s).lines = s.lines ∧ (clockOut s).nextSample = s.nextSample ∧
    (clockOut s).fifo = s.fifo ∧ (clockOut s).rules = s.rules ∧
    (clockOut s).switch = s.switch ∧ (clockOut s).classifier = s.classifier ∧
    (clockOut s).incidents = s.incidents ∧ (clockOut s).journal = s.journal ∧
    (clockOut s).readers = s.readers ∧ (clockOut s).alert = s.alert ∧
    (clockOut s).exceptions = s.exceptions ∧ (clockOut s).rate = s.rate ∧
    (clockOut s).claim = s.claim ∧ (clockOut s).restart = s.restart ∧
    (clockOut s).resetCause = s.resetCause := by
  simp only [clockOut]; (repeat' split) <;> simp

/-- `startSession` changes nothing but ports. -/
@[simp] theorem startSession_frame (p : Port) (n : Nat) (s : State) :
    (startSession p n s).pending = s.pending ∧ (startSession p n s).clock = s.clock ∧
    (startSession p n s).lines = s.lines ∧ (startSession p n s).nextSample = s.nextSample ∧
    (startSession p n s).fifo = s.fifo ∧ (startSession p n s).rules = s.rules ∧
    (startSession p n s).switch = s.switch ∧ (startSession p n s).classifier = s.classifier ∧
    (startSession p n s).incidents = s.incidents ∧ (startSession p n s).journal = s.journal ∧
    (startSession p n s).readers = s.readers ∧ (startSession p n s).alert = s.alert ∧
    (startSession p n s).exceptions = s.exceptions ∧ (startSession p n s).rate = s.rate ∧
    (startSession p n s).spi = s.spi ∧ (startSession p n s).claim = s.claim ∧
    (startSession p n s).restart = s.restart ∧ (startSession p n s).resetCause = s.resetCause := by
  simp [startSession]

/-- `loseSession` changes nothing but journal, readers, ports, claim, exceptions. -/
@[simp] theorem loseSession_frame (p : Port) (s : State) :
    (loseSession p s).pending = s.pending ∧ (loseSession p s).clock = s.clock ∧
    (loseSession p s).lines = s.lines ∧ (loseSession p s).nextSample = s.nextSample ∧
    (loseSession p s).fifo = s.fifo ∧ (loseSession p s).rules = s.rules ∧
    (loseSession p s).switch = s.switch ∧ (loseSession p s).classifier = s.classifier ∧
    (loseSession p s).incidents = s.incidents ∧ (loseSession p s).alert = s.alert ∧
    (loseSession p s).rate = s.rate ∧ (loseSession p s).spi = s.spi ∧
    (loseSession p s).restart = s.restart ∧ (loseSession p s).resetCause = s.resetCause := by
  simp [loseSession]

/-! ### Operations that act on line after line, slot after slot or event after event -/

/-- What each step of a fold keeps, the fold keeps. -/
theorem foldl_keeps {α β γ : Type} (g : β → γ) (f : β → α → β) (h : ∀ b a, g (f b a) = g b) (l : List α) (b : β) :
    g (l.foldl f b) = g b := by
  induction l generalizing b with
  | nil => rfl
  | cons a l ih => exact (ih (f b a)).trans (h b a)

/-- `sampleAll` changes nothing but lines, fifo, exceptions, ports, classifier, nextSample. -/
@[simp] theorem sampleAll_frame (pins : BitVec 32) (s : State) :
    (sampleAll pins s).pending = s.pending ∧ (sampleAll pins s).clock = s.clock ∧
    (sampleAll pins s).rules = s.rules ∧ (sampleAll pins s).switch = s.switch ∧
    (sampleAll pins s).incidents = s.incidents ∧ (sampleAll pins s).journal = s.journal ∧
    (sampleAll pins s).readers = s.readers ∧ (sampleAll pins s).alert = s.alert ∧
    (sampleAll pins s).rate = s.rate ∧ (sampleAll pins s).spi = s.spi ∧
    (sampleAll pins s).claim = s.claim ∧ (sampleAll pins s).restart = s.restart ∧
    (sampleAll pins s).resetCause = s.resetCause := by
  unfold sampleAll
  exact ⟨foldl_keeps (fun x : State => x.pending) _ (fun _ _ => by simp) _ _, foldl_keeps (fun x : State => x.clock) _ (fun _ _ => by simp) _ _, foldl_keeps (fun x : State => x.rules) _ (fun _ _ => by simp) _ _, foldl_keeps (fun x : State => x.switch) _ (fun _ _ => by simp) _ _, foldl_keeps (fun x : State => x.incidents) _ (fun _ _ => by simp) _ _, foldl_keeps (fun x : State => x.journal) _ (fun _ _ => by simp) _ _, foldl_keeps (fun x : State => x.readers) _ (fun _ _ => by simp) _ _, foldl_keeps (fun x : State => x.alert) _ (fun _ _ => by simp) _ _, foldl_keeps (fun x : State => x.rate) _ (fun _ _ => by simp) _ _, foldl_keeps (fun x : State => x.spi) _ (fun _ _ => by simp) _ _, foldl_keeps (fun x : State => x.claim) _ (fun _ _ => by simp) _ _, foldl_keeps (fun x : State => x.restart) _ (fun _ _ => by simp) _ _, foldl_keeps (fun x : State => x.resetCause) _ (fun _ _ => by simp) _ _⟩

/-- `feed` changes nothing but exceptions, ports. -/
@[simp] theorem feed_frame (p : Port) (bs : List Byte) (s : State) :
    (feed p bs s).pending = s.pending ∧ (feed p bs s).clock = s.clock ∧
    (feed p bs s).lines = s.lines ∧ (feed p bs s).nextSample = s.nextSample ∧
    (feed p bs s).fifo = s.fifo ∧ (feed p bs s).rules = s.rules ∧
    (feed p bs s).switch = s.switch ∧ (feed p bs s).classifier = s.classifier ∧
    (feed p bs s).incidents = s.incidents ∧ (feed p bs s).journal = s.journal ∧
    (feed p bs s).readers = s.readers ∧ (feed p bs s).alert = s.alert ∧
    (feed p bs s).rate = s.rate ∧ (feed p bs s).spi = s.spi ∧
    (feed p bs s).claim = s.claim ∧ (feed p bs s).restart = s.restart ∧
    (feed p bs s).resetCause = s.resetCause := by
  simp only [feed, setReceiver_frame]
  exact ⟨foldl_keeps (fun x : State => x.pending) _ (fun _ _ => by simp) _ _, foldl_keeps (fun x : State => x.clock) _ (fun _ _ => by simp) _ _, foldl_keeps (fun x : State => x.lines) _ (fun _ _ => by simp) _ _, foldl_keeps (fun x : State => x.nextSample) _ (fun _ _ => by simp) _ _, foldl_keeps (fun x : State => x.fifo) _ (fun _ _ => by simp) _ _, foldl_keeps (fun x : State => x.rules) _ (fun _ _ => by simp) _ _, foldl_keeps (fun x : State => x.switch) _ (fun _ _ => by simp) _ _, foldl_keeps (fun x : State => x.classifier) _ (fun _ _ => by simp) _ _, foldl_keeps (fun x : State => x.incidents) _ (fun _ _ => by simp) _ _, foldl_keeps (fun x : State => x.journal) _ (fun _ _ => by simp) _ _, foldl_keeps (fun x : State => x.readers) _ (fun _ _ => by simp) _ _, foldl_keeps (fun x : State => x.alert) _ (fun _ _ => by simp) _ _, foldl_keeps (fun x : State => x.rate) _ (fun _ _ => by simp) _ _, foldl_keeps (fun x : State => x.spi) _ (fun _ _ => by simp) _ _, foldl_keeps (fun x : State => x.claim) _ (fun _ _ => by simp) _ _, foldl_keeps (fun x : State => x.restart) _ (fun _ _ => by simp) _ _, foldl_keeps (fun x : State => x.resetCause) _ (fun _ _ => by simp) _ _⟩

/-- `closeAllIncidents` changes nothing but incidents, journal, alert, exceptions, readers, ports. -/
@[simp] theorem closeAllIncidents_frame (s : State) :
    ((closeAllIncidents s).1).pending = s.pending ∧ ((closeAllIncidents s).1).clock = s.clock ∧
    ((closeAllIncidents s).1).lines = s.lines ∧ ((closeAllIncidents s).1).nextSample = s.nextSample ∧
    ((closeAllIncidents s).1).fifo = s.fifo ∧ ((closeAllIncidents s).1).rules = s.rules ∧
    ((closeAllIncidents s).1).switch = s.switch ∧ ((closeAllIncidents s).1).classifier = s.classifier ∧
    ((closeAllIncidents s).1).rate = s.rate ∧ ((closeAllIncidents s).1).spi = s.spi ∧
    ((closeAllIncidents s).1).claim = s.claim ∧ ((closeAllIncidents s).1).restart = s.restart ∧
    ((closeAllIncidents s).1).resetCause = s.resetCause := by
  unfold closeAllIncidents
  exact ⟨foldl_keeps (fun x : State × Nat => x.1.pending) _ (fun _ _ => by simp) _ _, foldl_keeps (fun x : State × Nat => x.1.clock) _ (fun _ _ => by simp) _ _, foldl_keeps (fun x : State × Nat => x.1.lines) _ (fun _ _ => by simp) _ _, foldl_keeps (fun x : State × Nat => x.1.nextSample) _ (fun _ _ => by simp) _ _, foldl_keeps (fun x : State × Nat => x.1.fifo) _ (fun _ _ => by simp) _ _, foldl_keeps (fun x : State × Nat => x.1.rules) _ (fun _ _ => by simp) _ _, foldl_keeps (fun x : State × Nat => x.1.switch) _ (fun _ _ => by simp) _ _, foldl_keeps (fun x : State × Nat => x.1.classifier) _ (fun _ _ => by simp) _ _, foldl_keeps (fun x : State × Nat => x.1.rate) _ (fun _ _ => by simp) _ _, foldl_keeps (fun x : State × Nat => x.1.spi) _ (fun _ _ => by simp) _ _, foldl_keeps (fun x : State × Nat => x.1.claim) _ (fun _ _ => by simp) _ _, foldl_keeps (fun x : State × Nat => x.1.restart) _ (fun _ _ => by simp) _ _, foldl_keeps (fun x : State × Nat => x.1.resetCause) _ (fun _ _ => by simp) _ _⟩


/-! ### Operations over those -/

/-- `admitHeld` changes nothing but lines, fifo. -/
@[simp] theorem admitHeld_frame (s : State) :
    (admitHeld s).pending = s.pending ∧ (admitHeld s).clock = s.clock ∧
    (admitHeld s).nextSample = s.nextSample ∧ (admitHeld s).rules = s.rules ∧
    (admitHeld s).switch = s.switch ∧ (admitHeld s).classifier = s.classifier ∧
    (admitHeld s).incidents = s.incidents ∧ (admitHeld s).journal = s.journal ∧
    (admitHeld s).readers = s.readers ∧ (admitHeld s).alert = s.alert ∧
    (admitHeld s).exceptions = s.exceptions ∧ (admitHeld s).ports = s.ports ∧
    (admitHeld s).rate = s.rate ∧ (admitHeld s).spi = s.spi ∧
    (admitHeld s).claim = s.claim ∧ (admitHeld s).restart = s.restart ∧
    (admitHeld s).resetCause = s.resetCause := by
  unfold admitHeld
  split
  · simp
  · exact ⟨foldl_keeps State.pending _ (fun _ _ => by simp) _ _, foldl_keeps State.clock _ (fun _ _ => by simp) _ _, foldl_keeps State.nextSample _ (fun _ _ => by simp) _ _, foldl_keeps State.rules _ (fun _ _ => by simp) _ _, foldl_keeps State.switch _ (fun _ _ => by simp) _ _, foldl_keeps State.classifier _ (fun _ _ => by simp) _ _, foldl_keeps State.incidents _ (fun _ _ => by simp) _ _, foldl_keeps State.journal _ (fun _ _ => by simp) _ _, foldl_keeps State.readers _ (fun _ _ => by simp) _ _, foldl_keeps State.alert _ (fun _ _ => by simp) _ _, foldl_keeps State.exceptions _ (fun _ _ => by simp) _ _, foldl_keeps State.ports _ (fun _ _ => by simp) _ _, foldl_keeps State.rate _ (fun _ _ => by simp) _ _, foldl_keeps State.spi _ (fun _ _ => by simp) _ _, foldl_keeps State.claim _ (fun _ _ => by simp) _ _, foldl_keeps State.restart _ (fun _ _ => by simp) _ _, foldl_keeps State.resetCause _ (fun _ _ => by simp) _ _⟩

/-- `frontEndSwitch` changes nothing but lines, nextSample. -/
@[simp] theorem frontEndSwitch_frame (b : Bank) (s : State) :
    (frontEndSwitch b s).pending = s.pending ∧ (frontEndSwitch b s).clock = s.clock ∧
    (frontEndSwitch b s).fifo = s.fifo ∧ (frontEndSwitch b s).rules = s.rules ∧
    (frontEndSwitch b s).switch = s.switch ∧ (frontEndSwitch b s).classifier = s.classifier ∧
    (frontEndSwitch b s).incidents = s.incidents ∧ (frontEndSwitch b s).journal = s.journal ∧
    (frontEndSwitch b s).readers = s.readers ∧ (frontEndSwitch b s).alert = s.alert ∧
    (frontEndSwitch b s).exceptions = s.exceptions ∧ (frontEndSwitch b s).ports = s.ports ∧
    (frontEndSwitch b s).rate = s.rate ∧ (frontEndSwitch b s).spi = s.spi ∧
    (frontEndSwitch b s).claim = s.claim ∧ (frontEndSwitch b s).restart = s.restart ∧
    (frontEndSwitch b s).resetCause = s.resetCause := by
  simp only [frontEndSwitch, switchPeriod_frame]
  exact ⟨foldl_keeps State.pending _ (fun _ _ => by simp) _ _, foldl_keeps State.clock _ (fun _ _ => by simp) _ _, foldl_keeps State.fifo _ (fun _ _ => by simp) _ _, foldl_keeps State.rules _ (fun _ _ => by simp) _ _, foldl_keeps State.switch _ (fun _ _ => by simp) _ _, foldl_keeps State.classifier _ (fun _ _ => by simp) _ _, foldl_keeps State.incidents _ (fun _ _ => by simp) _ _, foldl_keeps State.journal _ (fun _ _ => by simp) _ _, foldl_keeps State.readers _ (fun _ _ => by simp) _ _, foldl_keeps State.alert _ (fun _ _ => by simp) _ _, foldl_keeps State.exceptions _ (fun _ _ => by simp) _ _, foldl_keeps State.ports _ (fun _ _ => by simp) _ _, foldl_keeps State.rate _ (fun _ _ => by simp) _ _, foldl_keeps State.spi _ (fun _ _ => by simp) _ _, foldl_keeps State.claim _ (fun _ _ => by simp) _ _, foldl_keeps State.restart _ (fun _ _ => by simp) _ _, foldl_keeps State.resetCause _ (fun _ _ => by simp) _ _⟩

/-- `discardCollection` changes nothing but exceptions, ports. -/
@[simp] theorem discardCollection_frame (p : Port) (bs : List Byte) (s : State) :
    (discardCollection p bs s).pending = s.pending ∧ (discardCollection p bs s).clock = s.clock ∧
    (discardCollection p bs s).lines = s.lines ∧ (discardCollection p bs s).nextSample = s.nextSample ∧
    (discardCollection p bs s).fifo = s.fifo ∧ (discardCollection p bs s).rules = s.rules ∧
    (discardCollection p bs s).switch = s.switch ∧ (discardCollection p bs s).classifier = s.classifier ∧
    (discardCollection p bs s).incidents = s.incidents ∧ (discardCollection p bs s).journal = s.journal ∧
    (discardCollection p bs s).readers = s.readers ∧ (discardCollection p bs s).alert = s.alert ∧
    (discardCollection p bs s).rate = s.rate ∧ (discardCollection p bs s).spi = s.spi ∧
    (discardCollection p bs s).claim = s.claim ∧ (discardCollection p bs s).restart = s.restart ∧
    (discardCollection p bs s).resetCause = s.resetCause := by
  simp [discardCollection]

/-- `takeByte` changes nothing but exceptions, ports. -/
@[simp] theorem takeByte_frame (p : Port) (b : Byte) (s : State) :
    (takeByte p b s).pending = s.pending ∧ (takeByte p b s).clock = s.clock ∧
    (takeByte p b s).lines = s.lines ∧ (takeByte p b s).nextSample = s.nextSample ∧
    (takeByte p b s).fifo = s.fifo ∧ (takeByte p b s).rules = s.rules ∧
    (takeByte p b s).switch = s.switch ∧ (takeByte p b s).classifier = s.classifier ∧
    (takeByte p b s).incidents = s.incidents ∧ (takeByte p b s).journal = s.journal ∧
    (takeByte p b s).readers = s.readers ∧ (takeByte p b s).alert = s.alert ∧
    (takeByte p b s).rate = s.rate ∧ (takeByte p b s).spi = s.spi ∧
    (takeByte p b s).claim = s.claim ∧ (takeByte p b s).restart = s.restart ∧
    (takeByte p b s).resetCause = s.resetCause := by
  simp [takeByte]

/-- `framingError` changes nothing but exceptions, ports. -/
@[simp] theorem framingError_frame (p : Port) (s : State) :
    (framingError p s).pending = s.pending ∧ (framingError p s).clock = s.clock ∧
    (framingError p s).lines = s.lines ∧ (framingError p s).nextSample = s.nextSample ∧
    (framingError p s).fifo = s.fifo ∧ (framingError p s).rules = s.rules ∧
    (framingError p s).switch = s.switch ∧ (framingError p s).classifier = s.classifier ∧
    (framingError p s).incidents = s.incidents ∧ (framingError p s).journal = s.journal ∧
    (framingError p s).readers = s.readers ∧ (framingError p s).alert = s.alert ∧
    (framingError p s).rate = s.rate ∧ (framingError p s).spi = s.spi ∧
    (framingError p s).claim = s.claim ∧ (framingError p s).restart = s.restart ∧
    (framingError p s).resetCause = s.resetCause := by
  simp only [framingError]; (repeat' split) <;> simp

/-- `installRules` changes nothing but lines, nextSample, rules, classifier, incidents, journal, alert, exceptions, readers, ports. -/
@[simp] theorem installRules_frame (s : State) :
    ((installRules s).1).pending = s.pending ∧ ((installRules s).1).clock = s.clock ∧
    ((installRules s).1).fifo = s.fifo ∧ ((installRules s).1).switch = s.switch ∧
    ((installRules s).1).rate = s.rate ∧ ((installRules s).1).spi = s.spi ∧
    ((installRules s).1).claim = s.claim ∧ ((installRules s).1).restart = s.restart ∧
    ((installRules s).1).resetCause = s.resetCause := by
  simp [installRules]

/-- `takeSwitchInstant` changes nothing but lines, nextSample, fifo, rules, switch, classifier, incidents, journal, alert, exceptions, readers, ports. -/
@[simp] theorem takeSwitchInstant_frame (s : State) :
    (takeSwitchInstant s).pending = s.pending ∧ (takeSwitchInstant s).clock = s.clock ∧
    (takeSwitchInstant s).rate = s.rate ∧ (takeSwitchInstant s).spi = s.spi ∧
    (takeSwitchInstant s).claim = s.claim ∧ (takeSwitchInstant s).restart = s.restart ∧
    (takeSwitchInstant s).resetCause = s.resetCause := by
  simp [takeSwitchInstant]

end Sys2Proof.Machine
end

