-- ==== Sys2Proof/Laws/Journal.lean ====
section
/-!
SUPPORT. What the journal's shared operations can do: runs of consecutive records, the newest record, the aging of the
latest alert, the acceptance of a record, and the withdrawal of waiting frames.
-/
namespace Sys2Proof.Machine

/-! ### Runs of consecutive records (R1, R2) -/

/-- The first record of a run lies as far below the next number as the run is long. -/
theorem distance_head_of_run {next : Seq} {r : Record} {rs : List Record}
    (h : r.seq = next - BitVec.ofNat 32 (rs.length + 1)) (hl : rs.length + 1 ≤ 2048) :
    (next - r.seq).toNat = rs.length + 1 := by
  rw [h]
  have : next - (next - BitVec.ofNat 32 (rs.length + 1)) = BitVec.ofNat 32 (rs.length + 1) := by bv_omega
  rw [this]
  simp
  omega

/-- The part of a run from a number on: the last records, as many as its distance, if it is held. -/
theorem dropWhile_ne_of_run (next n : Seq) : ∀ l : List Record, runFrom next l → l.length ≤ 2048 →
    l.dropWhile (fun r => r.seq != n) =
      if 1 ≤ (next - n).toNat ∧ (next - n).toNat ≤ l.length then l.drop (l.length - (next - n).toNat) else [] := by
  intro l
  induction l with
  | nil => intros; simp
  | cons r rs ih =>
    intro ⟨h1, h2⟩ hl
    have hd := distance_head_of_run h1 (by simpa using hl)
    have ih' := ih h2 (by simp at hl; omega)
    by_cases he : r.seq = n
    · have : (next - n).toNat = rs.length + 1 := by rw [← he]; exact hd
      rw [List.dropWhile_cons_of_neg (by simp [he])]
      simp [this]
    · have hne : (next - n).toNat ≠ rs.length + 1 := by
        intro hh
        apply he
        have : next - n = next - r.seq := BitVec.eq_of_toNat_eq (by rw [hh, hd])
        bv_omega
      rw [List.dropWhile_cons_of_pos (by simp [he]), ih']
      simp only [List.length_cons]
      by_cases hle : 1 ≤ (next - n).toNat ∧ (next - n).toNat ≤ rs.length
      · rw [if_pos hle, if_pos (by omega),
          show rs.length + 1 - (next - n).toNat = (rs.length - (next - n).toNat) + 1 by omega, List.drop_succ_cons]
      · rw [if_neg hle, if_neg (by omega)]

/-- The part of a run above a point: the last records, one fewer than its distance. -/
theorem dropWhile_atOrAbove_of_run (next a : Seq) : ∀ l : List Record, runFrom next l → l.length ≤ 2048 →
    l.dropWhile (fun r => atOrAbove next a r.seq) = l.drop (l.length + 1 - (next - a).toNat) := by
  intro l
  induction l with
  | nil => intros; simp
  | cons r rs ih =>
    intro ⟨h1, h2⟩ hl
    have hd := distance_head_of_run h1 (by simpa using hl)
    have ih' := ih h2 (by simp at hl; omega)
    by_cases he : (next - a).toNat ≤ rs.length + 1
    · rw [List.dropWhile_cons_of_pos (by simp only [atOrAbove, distance, hd]; exact decide_eq_true he), ih']
      simp only [List.length_cons]
      rw [show rs.length + 1 + 1 - (next - a).toNat = (rs.length + 1 - (next - a).toNat) + 1 by omega,
        List.drop_succ_cons]
    · rw [List.dropWhile_cons_of_neg (by simp only [atOrAbove, distance, hd]; simpa using he)]
      simp only [List.length_cons]
      rw [show rs.length + 1 + 1 - (next - a).toNat = 0 by omega]
      rfl

/-- A change of the newest record changes it alone. -/
theorem mapLast_append {f : Record → Record} (pre : List Record) (m : Record) :
    mapLast f (pre ++ [m]) = pre ++ [f m] := by
  induction pre with
  | nil => rfl
  | cons a t ih =>
    cases t with
    | nil => rfl
    | cons b u =>
      simp only [List.cons_append, mapLast] at ih ⊢
      rw [ih]

/-- A change of the newest record keeps the count. -/
@[simp] theorem length_mapLast (f : Record → Record) (l : List Record) : (mapLast f l).length = l.length := by
  rcases List.eq_nil_or_concat l with rfl | ⟨pre, m, rfl⟩
  · rfl
  · rw [List.concat_eq_append, mapLast_append]
    simp

/-! ### Accepting a record (R5, R6, R142) -/

/-- The aging of the latest alert changes its mark alone. -/
theorem ageAlert_eq (s : State) : ∃ aged, ageAlert s = { s with alert := { s.alert with aged := aged } } ∧
    (s.alert.latest = none → aged = s.alert.aged) ∧
    (∀ n, s.alert.latest = some n →
      (aged = true ↔ s.alert.aged = true ∨ 2064 < (s.journal.next - n).toNat)) := by
  unfold ageAlert distance
  split
  · rename_i n hn
    split
    · rename_i h
      refine ⟨true, rfl, by simp [hn], ?_⟩
      intro m hm
      rw [hn] at hm
      cases hm
      simp only [true_iff]
      exact .inr h
    · rename_i h
      refine ⟨s.alert.aged, rfl, fun _ => rfl, ?_⟩
      intro m hm
      rw [hn] at hm
      cases hm
      exact ⟨.inl, fun h2 => h2.resolve_right h⟩
  · rename_i hn
    exact ⟨s.alert.aged, rfl, fun _ => rfl, by simp [hn]⟩

/-- Taking an alert forgets what the alert unit held. -/
theorem takeAlert_alert (a : AlertInfo) (s : State) (x : AlertUnit) :
    takeAlert a { s with alert := x } = takeAlert a s := rfl

/-! ### Withdrawing frames (R30, R159) -/

/-- A withdrawal that no waiting frame meets changes nothing. -/
theorem withdraw_eq_self {s : State} {p : Port} {f : Frame → Bool}
    (h : ∀ x ∈ (s.ports.get p).waiting, f x = false) : s.withdraw p f = s := by
  have : (s.ports.get p).waiting.filter (fun x => !f x) = (s.ports.get p).waiting := by
    rw [List.filter_eq_self]
    intro a ha
    simp [h a ha]
  simp only [State.withdraw, this, State.setPort]
  cases p <;> rfl

/-- With no RECORDS frame waiting there is no first waiting record. -/
theorem waitingFirst_eq_none {l : List Frame} (h : ∀ rs, Frame.records rs ∉ l) : waitingFirst l = none := by
  unfold waitingFirst
  rw [List.findSome?_eq_none_iff]
  intro x hx
  cases x <;> simp_all

/-- A withdrawal of the RECORDS frame keeps a reader subscribed, and all but its send point and its timer. -/
theorem reader_withdrawRecords {s : State} {p : Port} {r : Subscription} (h : s.readers.get p = some r) :
    ∃ x, (withdrawRecords p s).readers.get p = some x ∧ x = { r with send := x.send, timer := x.timer } := by
  simp only [withdrawRecords]
  split
  · rename_i f r' _ hr
    rw [h] at hr
    cases hr
    refine ⟨_, by cases p <;> rfl, ?_⟩
    simp only [Subscription.settleTimer]
    split <;> rfl
  · exact ⟨r, by simpa using h, rfl⟩

end Sys2Proof.Machine
end

