-- ==== Sys2Proof/Laws/Reporting.lean ====
section
/-!
SUPPORT. What the offering of NOTICE frames can do to a port (R147, R148), and when a table is empty.
-/
namespace Sys2Proof.Machine

/-- An offer of a NOTICE touches its port alone. -/
theorem offerNotice_eq (p : Port) (s : State) : ∃ x, offerNotice p s = s.setPort p x ∧
    x.receiver = (s.ports.get p).receiver ∧ x.requests = (s.ports.get p).requests ∧
    x.inHand = (s.ports.get p).inHand ∧ x.sending = (s.ports.get p).sending ∧
    x.session.map (·.number) = (s.ports.get p).session.map (·.number) := by
  have hset : s = s.setPort p (s.ports.get p) := by cases p <;> rfl
  unfold offerNotice
  split
  · exact ⟨_, hset, rfl, rfl, rfl, rfl, rfl⟩
  · rename_i ses hs
    split
    · unfold queueNotice
      split
      · exact ⟨_, hset, rfl, rfl, rfl, rfl, rfl⟩
      · exact ⟨_, rfl, rfl, rfl, rfl, rfl, rfl⟩
    · exact ⟨_, rfl, rfl, rfl, rfl, rfl, by simp [hs]⟩

/-- An offer of an ALERT touches its port alone. -/
theorem offerAlert_eq (p : Port) (a : AlertInfo) (s : State) : ∃ x, offerAlert p a s = s.setPort p x ∧
    x.receiver = (s.ports.get p).receiver ∧ x.requests = (s.ports.get p).requests ∧
    x.inHand = (s.ports.get p).inHand ∧ x.sending = (s.ports.get p).sending ∧
    x.session.map (·.number) = (s.ports.get p).session.map (·.number) := by
  have hset : s = s.setPort p (s.ports.get p) := by cases p <;> rfl
  unfold offerAlert
  split
  · exact ⟨_, hset, rfl, rfl, rfl, rfl, rfl⟩
  · rename_i ses hs
    split
    · exact ⟨_, rfl, rfl, rfl, rfl, rfl, by simp [hs]⟩
    · exact ⟨_, hset, rfl, rfl, rfl, rfl, rfl⟩

/-- A notice frame is one of rank 2. -/
theorem isNotice_iff_rank (f : Frame) : f.isNotice = true ↔ f.rank = 2 := by
  cases f <;> simp [Frame.isNotice, Frame.rank]

/-- An alert frame is one of rank 1. -/
theorem isAlert_iff_rank (f : Frame) : f.isAlert = true ↔ f.rank = 1 := by
  cases f <;> simp [Frame.isAlert, Frame.rank]

end Sys2Proof.Machine
end

