-- ==== Sys2Proof/Laws/Requests.lean ====
section
/-!
SUPPORT. What the taking and answering of a request can do, said once: the cases of R157.
-/
namespace Sys2Proof.Machine

/-- A request step keeps what its block keeps, if putting a request in hand and queuing its reply keep it. -/
theorem takeRequest_induct {motive : State → Prop} {p : Port} {wanted : Byte → Bool}
    {carry : Request → State → Answer} {s : State}
    (hin : ∀ t, motive t → motive (t.putInHand p)) (hq : ∀ t r, motive t → motive (t.queueFrame p (.reply false r)))
    (ha : ∀ t r, motive t → motive (t.answer p r)) (hc : ∀ q t, motive t → motive (carry q t).1)
    (h : motive s) : motive (takeRequest p wanted carry s) := by
  unfold takeRequest
  split
  · exact h
  · split
    · dsimp only
      split
      · exact hq _ _ (hin _ h)
      · exact ha _ _ (hc _ _ (hin _ h))
    · exact h

/-- What a request step keeps, from what its block keeps. -/
theorem request_induct {motive : State → Prop} {p : Port} {k : RequestKind} {block : List Byte → State → Answer}
    {s : State} (hin : ∀ t, motive t → motive (t.putInHand p))
    (hq : ∀ t r, motive t → motive (t.queueFrame p (.reply false r)))
    (ha : ∀ t r, motive t → motive (t.answer p r)) (hb : ∀ bs t, motive t → motive (block bs t).1)
    (h : motive s) : motive (request p k block s) := by
  refine takeRequest_induct hin hq ha (fun q t ht => ?_) h
  unfold carryOut
  split
  · exact ht
  · split
    · exact ht
    · exact hb _ _ ht

/-- A value that the ports do not enter and that the block keeps, a request step keeps. -/
theorem request_keeps {α : Type} (g : State → α) {p : Port} {k : RequestKind} {block : List Byte → State → Answer}
    {s : State} (hp : ∀ t x, g (State.setPort t p x) = g t) (hb : ∀ bs t, g (block bs t).1 = g t) :
    g (request p k block s) = g s := by
  refine request_induct (motive := fun t => g t = g s) ?_ ?_ ?_ ?_ rfl
  · exact fun t ht => (hp t _).trans ht
  · exact fun t r ht => (hp t _).trans ht
  · intro t r ht
    exact (hp _ _).trans ((hp _ _).trans ht)
  · exact fun bs t ht => (hb bs t).trans ht

/-- What a request that needs the claim keeps, from what its block keeps. -/
theorem withClaim_keeps {α : Type} (g : State → α) {p : Port} {s : State} {a : Answer} (h : g a.1 = g s) :
    g (withClaim p s a).1 = g s := by
  unfold withClaim
  split
  · exact h
  · rfl

@[simp] theorem storedReply_putInHand (s : State) (p : Port) (q : Request) :
    (s.putInHand p).storedReply p q = s.storedReply p q := by
  simp [State.storedReply]

@[simp] theorem session_putInHand (s : State) (p p' : Port) :
    ((s.putInHand p).ports.get p').session = (s.ports.get p').session := by
  cases p <;> cases p' <;> simp

/-- A ready request is carried out by its block and answered (R157, case 5). -/
theorem request_ready {s : State} {p : Port} {k : RequestKind} {q : Request} (block : List Byte → State → Answer)
    (h : Ready s p k q) :
    request p k block s = (block q.payload (s.putInHand p)).1.replied p q (block q.payload (s.putInHand p)).2.1
      (block q.payload (s.putInHand p)).2.2 := by
  have hc : carryOut p k block q (s.putInHand p) = block q.payload (s.putInHand p) := by
    unfold carryOut
    rw [if_neg, if_neg]
    · exact fun hn => hn h.length
    · have := h.session
      simp only [session_putInHand, Bool.and_eq_true, Option.isNone_iff_eq_none, Bool.not_eq_true']
      rintro ⟨h1, h2⟩
      simp [h1, h2] at this
  unfold request takeRequest
  rw [h.takable]
  simp only [h.kind, beq_self_eq_true, if_true, storedReply_putInHand, h.fresh]
  rw [hc]
  simp [State.replied, h.kind]

/-- A ready request of kind `k` passes to its block (R157, case 5). -/
theorem passesToBlock_of_ready {s : State} {p : Port} {k : RequestKind} {q : Request} (h : Ready s p k q) :
    s.passesToBlock p k = true := by
  have := h.session
  simp only [State.passesToBlock, h.takable, h.kind, h.fresh, h.length]
  rcases this with h | h <;> simp [h]

/-- CLOSE_INCIDENT during a call's action, when it would reach the incident unit: it waits (R49). -/
def State.holdsBack (s : State) (p : Port) (k : RequestKind) : Prop :=
  k = .closeIncident ∧ s.inAction = true ∧ s.passesToBlock p .closeIncident = true

/-- All that a request row does: it takes a request of its kind from its port, or, held back, changes nothing. -/
theorem exec_request {c : Instr} {p : Port} {k : RequestKind} (h : requestOf c = some (p, k)) :
    ∃ block, ∀ s, (¬s.holdsBack p k ∧ exec c s = .next (request p k block s)) ∨
      (s.holdsBack p k ∧ exec c s = .next s) := by
  cases c <;> simp only [requestOf, Option.some.injEq, Prod.mk.injEq, reduceCtorEq] at h <;>
    obtain ⟨rfl, rfl⟩ := h
  case closeIncident p =>
    refine ⟨closeIncidentBlock p, fun s => ?_⟩
    simp only [State.holdsBack, true_and, exec, execCloseIncident]
    split <;> simp_all
  all_goals exact ⟨_, fun _ => .inl ⟨fun hb => absurd hb.1 (by decide), rfl⟩⟩

/-- The meaning of a request row that needs the claim asks for it before anything else (Table 9-3). -/
theorem exec_claimed {c : Instr} {p : Port} {k : RequestKind} (h : requestOf c = some (p, k))
    (hk : k.needsClaim = true) :
    ∃ carry : List Byte → State → Answer, ∀ s,
      (¬s.holdsBack p k ∧ exec c s = .next (request p k (fun bs t => withClaim p t (carry bs t)) s)) ∨
      (s.holdsBack p k ∧ exec c s = .next s) := by
  cases c <;> simp only [requestOf, Option.some.injEq, Prod.mk.injEq, reduceCtorEq] at h <;>
    obtain ⟨rfl, rfl⟩ := h
  case closeIncident p =>
    refine ⟨fun bs t => if fieldInt bs 0 2 = 0 then refuse .badValue t
      else match t.incidents.slotOfId (BitVec.ofNat 16 (fieldInt bs 0 2)) with
        | none => refuse .notOpen t
        | some (i, x) => (closeSlot .host i x t, .ok, .none), fun s => ?_⟩
    simp only [State.holdsBack, true_and, exec, execCloseIncident]
    split
    · simp_all
    · exact .inl ⟨by simp_all, rfl⟩
  all_goals first
    | exact absurd hk (by decide)
    | exact ⟨_, fun _ => .inl ⟨fun hb => absurd hb.1 (by decide), rfl⟩⟩

/-- Putting a request in hand does not touch the claim. -/
@[simp] theorem holdsClaim_putInHand (s : State) (p p' : Port) : (s.putInHand p).holdsClaim p' = s.holdsClaim p' := by
  simp only [State.holdsClaim, session_putInHand]
  rfl

/-- A ready request of the claimant's is carried out by its block and answered (R157, R165). -/
theorem ready_claimed {block : List Byte → State → Answer} {s : State} {p : Port} {k : RequestKind} {q : Request}
    (h : Ready s p k q) (hc : s.holdsClaim p = true) :
    request p k (fun bs t => withClaim p t (block bs t)) s =
      (block q.payload (s.putInHand p)).1.replied p q (block q.payload (s.putInHand p)).2.1
        (block q.payload (s.putInHand p)).2.2 := by
  rw [request_ready _ h]
  simp only [withClaim, holdsClaim_putInHand, hc, if_true]

/-! ### Fields (R170) -/

@[simp] theorem length_beBytes (n v : Nat) : (beBytes n v).length = n := by
  induction n with
  | zero => rfl
  | succ n ih => simp [beBytes, ih]

/-- A number that fits four bytes is read from its four bytes. -/
theorem ofBytes_beBytes_four {v : Nat} (h : v < 2 ^ 32) : ofBytes (beBytes 4 v) = v := by
  simp [beBytes, ofBytes]
  omega

/-- A number that fits two bytes is read from its two bytes. -/
theorem ofBytes_beBytes_two {v : Nat} (h : v < 2 ^ 16) : ofBytes (beBytes 2 v) = v := by
  simp [beBytes, ofBytes]
  omega

/-- A sequence number at the start of a payload is read as itself. -/
theorem fieldSeq_seqBytes (n : Seq) (l : List Byte) : fieldSeq (seqBytes n ++ l) 0 = n := by
  have h : (seqBytes n ++ l).take 4 = seqBytes n := by
    rw [List.take_append_of_le_length (by simp [seqBytes])]
    exact List.take_of_length_le (by simp [seqBytes])
  simp only [fieldSeq, fieldInt, List.drop_zero, h]
  rw [seqBytes, ofBytes_beBytes_four n.isLt]
  simp

end Sys2Proof.Machine
end

