-- ==== Sys2Proof/WellFormed.lean ====
section
/-!
DEFINITION. Which commands the outside world can bring about. A meaning is total; these checks say which operands
describe an event of the part.
-/
namespace Sys2Proof

/-- Port A alone has a stop bit, so a byte of Port B has no framing error (R152, R153). -/
def stopBitPossible (port : Port) (stopLow : Bool) : Bool :=
  !(stopLow && port == .b)

/-- A byte counts as received when its eighth bit has been clocked, so an unfinished byte has at most seven (R153). -/
def unfinishedByte (bits : List Bool) : Bool :=
  bits.length < 8

/-- The operands of a command describe an event the part can meet. -/
def Instr.wellFormed : Instr → Bool
  | .receiveByte port _ stopLow => stopBitPossible port stopLow
  | .selectionEnd bits => unfinishedByte bits
  | .powerOnReset _ | .pinReset _ | .restartTimerExpiry _ | .gapTimerExpiry _ | .transmitFrameBegin _
  | .transmitFrameComplete _ _ | .unknownKindRequest _ | .identify _ | .openSession _ | .closeSession _ | .ping _
  | .claim _ | .releaseClaim _ | .restart _ | .sessionTimerExpiry _ | .readRecords _ | .getJournalStatus _
  | .clearJournal _ | .setJournalMode _ | .subscribe _ | .resume _ | .unsubscribe _ | .ack _ | .dropReader _
  | .queueRecordsFrame _ | .queueGapFrame _ | .retransmitTimerExpiry _ | .listIncidents _ | .closeIncident _
  | .quietTimerExpiry _ | .durationTimerExpiry _ | .sampleInstant _ | .chatterWindowExpiry _
  | .releaseTimerExpiry _ | .heldEntryAdmission | .getLines _ | .takeSnapshot _ | .classifierTakeEntry
  | .deferredSnapshotBuild | .syncEdge _ | .missingPulseTimerExpiry | .holdoverTimerExpiry | .getTime _
  | .setTime _ | .setTimeOptions _ | .readRule _ | .writeLineRule _ | .writeGroupRule _ | .writeGlobalRule _
  | .copyActiveToStaged _ | .switchRules _ | .validationCompletion _ | .switchInstant | .abortSwitch _
  | .getSwitchStatus _ | .clearAlert _ | .setSessionOptions _ | .getExceptions _ | .clearException _ => true

end Sys2Proof
end

