-- ==== Sys2Proof/Tests/Slice0.lean ====
section
/-!
SUPPORT. The model's own tests: the ill-formed commands that the checks refuse, steps with expected results from the
spec's examples and tables (each test names its source), and a witness for the hypotheses of each statement.
-/
namespace Sys2Proof.Tests
open Sys2Proof Sys2Proof.Machine

set_option Elab.async false

/-! ### Small states -/

/-- The state that a run of commands ends in. -/
def after (cs : List Instr) (s : State) : Option State :=
  match runAll cs s with
  | .next t => some t
  | .fault _ => none
  | .refused _ => none

/-- What `f` reads in the state that a run of commands ends in. -/
def read {α : Type} (f : State → α) (cs : List Instr) (s : State) : Option α :=
  (after cs s).map f

/-- A session with number 1 and a timeout of 1 s, from uptime 0. -/
def session1 : Session := ⟨1, 1000, 1000000, false, 0, false, 0, false⟩

/-- `s` with an open session on Port A that holds the claim. -/
def withSession (s : State) : State :=
  { s with ports := ⟨{ s.ports.a with session := some session1, nextSession := 2 }, s.ports.b⟩, claim := some ⟨.a, 1⟩ }

/-- `s` with an open claiming session on Port A whose oldest request is of kind `k`, with tag 7. -/
def asked (k : RequestKind) (payload : List Byte) (s : State) : State :=
  (withSession s).setPort .a { (withSession s).ports.a with
    requests := [⟨k.code, 7, payload⟩], inHand := false, lastReply := none }

/-- The status and body of the reply last stored for Port A. -/
def reply (s : State) : Option (Status × ReplyBody) :=
  s.ports.a.lastReply.map fun r => (r.status, r.body)

/-- Records numbered up to one below `next`. -/
def run (next : Seq) : Nat → List Record
  | 0 => []
  | n + 1 => ⟨next - BitVec.ofNat 32 (n + 1), ⟨TimeOfDay.zero, .free⟩, 0, {}, .timeStep 0⟩ :: run next n

/-- `s` with a journal of `n` such records. -/
def journalOf (next : Seq) (n : Nat) (mode : JournalMode) (s : State) : State :=
  { s with journal := ⟨run next n, next, mode⟩ }

/-- A line rule in CAPTURE with debounce 3, chatter limit 3, window 50 ms and release 200 ms (4.9). -/
def rule9 : LineRule := { LineRule.default with
  mode := .capture, debounce := 3, chatterLimit := 3, chatterWindowMs := 50, chatterReleaseMs := 200
  edges := .rising, cls := 4, alert := true }

/-- `s` at uptime `now`. -/
def at_ (now : Uptime) (s : State) : State := { s with clock := { s.clock with uptime := now } }

/-- `s` with line 9 in CAPTURE under `rule9`, as line `l`. -/
def line9 (l : Line) (s : State) : State :=
  { s with
    rules := { s.rules with active := { s.rules.active with lines := s.rules.active.lines.set 9 rule9 } }
    lines := s.lines.set 9 l }

/-- An IDLE line. -/
def idleLine : Line := { Line.reset with phase := .idle }

/-- Only line 9's pin is high. -/
def pin9 : BitVec 32 := 0x00000200

/-! ### Ill-formed commands (R152, R153) -/

theorem test_portB_has_no_stop_bit : (Instr.receiveByte .b 0x00 true).wellFormed = false := by decide
theorem test_portA_has_stop_bit : (Instr.receiveByte .a 0x00 true).wellFormed = true := by decide
theorem test_unfinished_byte_has_seven_bits :
    (Instr.selectionEnd [true, true, true, true, true, true, true, true]).wellFormed = false := by decide

/-! ### Frames (Table 10-1, Table 10-10, R169) -/

/-- The check value of this CRC over "123456789" (polynomial 0x1021, initial value 0xFFFF, not reflected). -/
theorem test_crc_check_value :
    crc16 [0x31, 0x32, 0x33, 0x34, 0x35, 0x36, 0x37, 0x38, 0x39] = 0x29B1 := by decide +kernel

/-- Bytes 0 to 26 of Table 10-10, with stamp 1 s, 2 us, FREE. -/
theorem test_table_10_10 :
    (Frame.records [⟨200, ⟨⟨1, 2⟩, .free⟩, 5, { alert := true }, .lineChange 9 .high 4 none⟩]).bytes.take 27 =
      [0xC3, 0x17, 0x94, 0x00, 0x01, 0x16, 0x00, 0x00, 0x00, 0xC8, 0x01, 0x00, 0x00, 0x00, 0x01, 0x00, 0x00, 0x02, 0x01,
        0x00, 0x05, 0x01, 0x09, 0x01, 0x04, 0x00, 0x00] := by decide +kernel

/-- A PING frame (LEN 0, KIND 0x04, TAG 9) is queued as that request; a wrong CRC raises LINK_ERROR (R154). -/
theorem test_ping_frame_arrives :
    read (fun s => s.ports.a.requests) ((wireFrame 0x04 9 []).map fun b => .receiveByte .a b false) State.reset =
      some [⟨0x04, 9, []⟩] := by decide +kernel
theorem test_bad_crc_raises_link_error :
    read (fun s => (s.ports.b.requests, s.exceptions.slots[0].map fun e => (e.kind, e.subject, e.count)))
      ([0xC3, 0x00, 0x04, 0x09, 0x00, 0x00].map fun b => .receiveByte .b b false) State.reset =
      some ([], some (.linkError, .port .b, 1)) := by decide +kernel
theorem test_portB_shifts_filler :
    read (fun s => (s.spi.selected, s.spi.sdo)) [.receiveByte .b 0x55 false] State.reset = some (true, 0x00) := by
  decide +kernel
/-- A byte clocked with a frame waiting and none in transmission makes the pick, and matches its SYNC byte (R159). -/
theorem test_portB_byte_makes_the_pick :
    read (fun s => (s.spi.sdo, s.ports.b.sending)) [.receiveByte .b 0x00 false]
      (State.reset.queueFrame .b (.notice 0 false)) = some (0xC3, some ⟨.notice 0 false, 1⟩) := by decide +kernel
theorem test_selection_end_deselects :
    read (fun s => s.spi.selected) [.receiveByte .b 0x55 false, .selectionEnd [true]] State.reset = some false := by
  decide +kernel
/-- The kept bytes are scanned again: the second 0xC3 begins a collection (R154). -/
theorem test_gap_expiry_scans_again :
    read (fun s => (s.ports.a.receiver, s.ports.a.gapTimer)) [.gapTimerExpiry .a]
      (at_ 5000 { State.reset with ports := ⟨{ PortState.reset with
        receiver := .collecting [0x02, 0xC3, 0x01], gapTimer := some 5000 }, PortState.reset⟩ }) =
      some (.collecting [0x01], some 10000) := by decide +kernel
theorem test_gap_expiry_discards :
    read (fun s => (s.ports.a.receiver, s.exceptions.slots[0].map (·.kind))) [.gapTimerExpiry .a]
      (at_ 5000 { State.reset with ports := ⟨{ PortState.reset with
        receiver := .collecting [0x02], gapTimer := some 5000 }, PortState.reset⟩ }) =
      some (.hunting, some .linkError) := by decide +kernel

/-! ### Sessions (9.9, R157 to R166) -/

/-- The OPEN of 9.9: session 3 ends, its RECORDS frame leaves, reader B is DORMANT, session 4 opens and the claim is
free. -/
def portB99 : State :=
  { State.reset with
    ports := ⟨PortState.reset, { PortState.reset with
      session := some ⟨3, 2000, 2000000, false, 0, false, 0, false⟩, nextSession := 4
      requests := [⟨0x02, 22, [1, 0x07, 0xD0]⟩]
      lastReply := some ⟨0x16, 21, .ok, .none⟩
      waiting := [.records (run 12 1)] }⟩
    readers := ⟨none, some ⟨.active, 10, 12, 4, 200, 0, true, some 200000, none⟩⟩
    claim := some ⟨.b, 3⟩ }
theorem test_open_replaces_session :
    read (fun s => (s.ports.b.session.map (·.number), s.claim, s.readers.b.map fun r => (r.state, r.ack, r.send)))
      [.openSession .b] portB99 = some (some 4, none, some (.dormant, 10, 11)) := by decide +kernel
theorem test_open_reply :
    read (fun s => s.ports.b.waiting) [.openSession .b] portB99 =
      some [.reply false ⟨0x02, 22, .ok, .opened 4 .dormant .free⟩] := by decide +kernel
/-- A repeat of TAG 21 is answered from the store and not carried out (9.9). -/
theorem test_repeat_is_answered_from_store :
    read (fun s => (s.clock.timeOfDay, s.ports.b.waiting.head?)) [.setTime .b]
      { portB99 with ports := ⟨PortState.reset, { portB99.ports.b with
        requests := [⟨0x16, 21, [0, 0, 0, 9, 0, 0, 0]⟩], waiting := [] }⟩ } =
      some (⟨0, 0⟩, some (.reply false ⟨0x16, 21, .ok, .none⟩)) := by decide +kernel
theorem test_close_ends_session :
    read (fun s => (s.ports.a.session, s.claim, reply s)) [.closeSession .a] (asked .closeSession [] State.reset) =
      some (none, none, some (.ok, .none)) := by decide +kernel
theorem test_identify_without_session :
    read (fun s => reply s) [.identify .a] { State.reset with ports := ⟨{ PortState.reset with
      requests := [⟨0x01, 1, []⟩] }, PortState.reset⟩ } = some (some (.ok, .identify .powerOn 0 none)) := by decide +kernel
theorem test_ping_answers_uptime :
    read reply [.ping .a] (at_ 77 (asked .ping [] State.reset)) = some (some (.ok, .uptime 77)) := by decide +kernel
theorem test_no_session :
    read reply [.ping .a] { State.reset with ports := ⟨{ PortState.reset with
      requests := [⟨0x04, 1, []⟩] }, PortState.reset⟩ } = some (some (.noSession, .none)) := by decide +kernel
theorem test_unknown_kind :
    read reply [.unknownKindRequest .a] { State.reset with ports := ⟨{ PortState.reset with
      requests := [⟨0x24, 1, []⟩] }, PortState.reset⟩ } = some (some (.unknownKind, .none)) := by decide +kernel
theorem test_claim_held_by_other :
    read (fun s => (s.claim, reply s)) [.claim .a] { asked .claim [] State.reset with claim := some ⟨.b, 4⟩ } =
      some (some ⟨.b, 4⟩, some (.heldByOther, .claim .heldByOther)) := by decide +kernel
theorem test_release_frees_claim :
    read (fun s => (s.claim, reply s)) [.releaseClaim .a] (asked .releaseClaim [] State.reset) =
      some (none, some (.ok, .claim .free)) := by decide +kernel
/-- RESTART, its reply begun and completed: the part resets with cause REQUEST_FULL (R166). -/
theorem test_restart_resets_after_reply :
    read (fun s => (s.resetCause, s.clock.uptime, s.rate, s.ports.a.session))
      [.restart .a, .transmitFrameBegin .a, .transmitFrameComplete .a ⟨true, false⟩]
      (at_ 9 (asked .restart [0] State.reset)) = some (.requestFull, 0, .baud921600, none) := by decide +kernel
/-- The restart timer runs 50 ms (R166). -/
theorem test_restart_timer :
    (read (fun s => s.restart.isSome) [.restart .a, .restartTimerExpiry ⟨false, false⟩]
      (asked .restart [1] State.reset),
     read (fun s => s.resetCause) [.restartTimerExpiry ⟨false, false⟩]
      (at_ 50000 { State.reset with restart := some ⟨50000, .keepTime, .a⟩ })) =
      (some true, some .requestKeepTime) := by decide +kernel
theorem test_session_timeout :
    read (fun s => (s.ports.a.session, s.claim, s.exceptions.slots[0].map fun e => (e.kind, e.subject)))
      [.sessionTimerExpiry .a] (at_ 1000000 (withSession State.reset)) =
      some (none, none, some (.sessionLost, .port .a)) := by decide +kernel
theorem test_reset_strap_and_cause :
    (read (fun s => (s.rate, s.resetCause)) [.powerOnReset ⟨true, true⟩] State.reset,
     read (fun s => (s.rate, s.resetCause)) [.pinReset ⟨false, true⟩] State.reset) =
      (some (.baud3000000, .powerOn), some (.baud460800, .pin)) := by decide +kernel

/-! ### Journal (1.8, R21 to R24) -/

/-- The start of Table 1-8, with the ACK of its fourth event in hand. -/
def start18 : State :=
  { asked .ack [0x00, 0x00, 0x03, 0xF0] (journalOf 3048 2047 .halt State.reset) with
    readers := ⟨some ⟨.active, 1000, 1009, 16, 200, 0, true, some 200000, none⟩, none⟩ }
/-- The three refused appends of Table 1-8. -/
def refused18 (s : State) : State :=
  let s := offer ⟨.lineChange 4 .high 3 none, some ⟨⟨5, 0⟩, .free⟩, { alert := true }⟩ s
  let s := offer ⟨.qualityChange .free .locked, none, {}⟩ s
  offer ⟨.timeStep 60, none, {}⟩ s
theorem test_table_1_8_refusals :
    (refused18 start18).journal.held.length = 2048 ∧ (refused18 start18).journal.next = 3049 ∧
      ((refused18 start18).journal.held.getLast?.map fun r => (r.seq, r.flags.markerOpen)) = some (3048, true) ∧
      ((refused18 start18).journal.held.getLast?.map fun r => match r.body with
        | .overflow m => (m.records, m.alerts, m.classes)
        | _ => (0, 0, 0)) = some (3, 1, 0x08) ∧ (refused18 start18).alert.latest = some 3048 := by decide +kernel
theorem test_table_1_8_ack :
    read (fun s => (s.journal.held.length, s.journal.held.head?.map (·.seq), s.journal.markerOpen)) [.ack .a]
        (refused18 start18) = some (2040, some 1009, false) ∧
      read (fun s => s.readers.a.map fun r => (r.ack, r.timer)) [.ack .a] (refused18 start18) =
        some (some (1008, none)) := by decide +kernel
theorem test_read_records_not_held :
    read reply [.readRecords .a] (asked .readRecords [0, 0, 0, 2, 4] State.reset) = some (some (.notHeld, .none)) := by
  decide +kernel
theorem test_read_records :
    read reply [.readRecords .a] (asked .readRecords [0, 0, 0, 9, 4] (journalOf 11 3 .halt State.reset)) =
      some (some (.ok, .records (run 11 2))) := by decide +kernel
theorem test_journal_status :
    read reply [.getJournalStatus .a] (asked .getJournalStatus [] State.reset) =
      some (some (.ok, .journal ⟨.halt, 1, some 1, 2, false, ⟨.unsubscribed, none⟩, ⟨.unsubscribed, none⟩⟩)) := by
  decide +kernel
theorem test_clear_journal :
    read (fun s => s.journal.held.map fun r => (r.seq, r.body)) [.clearJournal .a]
      (asked .clearJournal [] (journalOf 11 3 .halt State.reset)) = some [(11, .cleared 3 (some (8, 10)))] := by
  decide +kernel
theorem test_set_journal_mode :
    (read (fun s => (s.journal.mode, reply s)) [.setJournalMode .a] (asked .setJournalMode [1] State.reset),
     read reply [.setJournalMode .a] (asked .setJournalMode [2] State.reset)) =
      (some (.wrap, some (.ok, .none)), some (some (.badValue, .none))) := by decide +kernel

/-! ### Delivery (2.11, 2.12) -/

/-- The start of 2.11, with a FROM-less RESUME request waiting on Port A. -/
def start211 : State :=
  { journalOf 12049 2048 .wrap State.reset with
    readers := ⟨some ⟨.active, 12040, 12049, 8, 200, 0, true, some 200000, none⟩,
      some ⟨.dormant, 10000, 10001, 4, 200, 0, true, none, none⟩⟩ }
theorem test_table_2_5_overwrites :
    let s := offer ⟨.timeStep 1, none, {}⟩ (offer ⟨.timeStep 1, none, {}⟩ (offer ⟨.timeStep 1, none, {}⟩ start211))
    (s.readers.b.map fun r => (r.ack, r.send)) = some (10003, 10004) ∧
      (s.readers.b.map (·.gap)) = some (some (10001, 10003)) ∧
      (s.readers.a.map fun r => (r.ack, r.send)) = some (12040, 12049) ∧
      (s.exceptions.slots[0].map fun e => (e.kind, e.subject, e.count)) = some (.recordsOverwritten, .port .b, 3) ∧
      s.journal.held.head?.map (·.seq) = some 10004 := by decide +kernel
/-- Rows of Table 2-5 from RESUME: GAP first, then RECORDS 10,004 to 10,007. -/
def resumed211 : State :=
  { journalOf 12052 2048 .wrap State.reset with
    readers := ⟨none, some ⟨.active, 10003, 10004, 4, 200, 0, true, none, some (10001, 10003)⟩⟩ }
theorem test_table_2_5_gap_first :
    read (fun s => s.ports.b.waiting) [.queueRecordsFrame .b] resumed211 = some [] ∧
      read (fun s => (s.ports.b.waiting, s.readers.b.map (·.gap))) [.queueGapFrame .b] resumed211 =
        some ([.gap 10001 10003 10003], some none) ∧
      read (fun s => s.readers.b.map fun r => (r.ack, r.send, r.timer)) [.queueGapFrame .b, .queueRecordsFrame .b]
        resumed211 = some (some (10003, 10008, some 200000)) := by decide +kernel
/-- Rows of Table 2-6: the first expiry goes back; at the eighth the reader stalls; the ACK of 506 makes it ACTIVE. -/
def reader212 (retry : Nat) (send : Seq) : State :=
  { journalOf 521 20 .halt State.reset with
    readers := ⟨some ⟨.active, 502, send, 4, 200, retry, true, some 1860000, none⟩, none⟩ }
theorem test_table_2_6_go_back :
    read (fun s => s.readers.a) [.retransmitTimerExpiry .a] (at_ 1860000 (reader212 0 507)) =
      some (some ⟨.active, 502, 503, 4, 200, 1, true, none, none⟩) := by decide +kernel
theorem test_table_2_6_stall :
    read (fun s => (s.readers.a.map fun r => (r.state, r.send, r.retry), s.exceptions.slots[0].map (·.kind)))
      [.retransmitTimerExpiry .a] (at_ 1860000 (reader212 7 507)) =
      some (some (.stalled, 507, 8), some .deliveryStalled) := by decide +kernel
theorem test_subscribe_oldest :
    read (fun s => (s.readers.a, reply s))
      [.subscribe .a] (asked .subscribe [0, 0, 0, 0, 0, 16, 0x13, 0x88, 1] (journalOf 11 3 .halt State.reset)) =
      some (some ⟨.active, 7, 8, 16, 5000, 0, true, none, none⟩, some (.ok, .points 7 8)) := by decide +kernel
theorem test_subscribe_window_17 :
    read reply [.subscribe .a] (asked .subscribe [0, 0, 0, 0, 0, 17, 0x13, 0x88, 1] State.reset) =
      some (some (.badValue, .none)) := by decide +kernel
theorem test_resume_and_unsubscribe :
    (read reply [.resume .a] (asked .resume [] State.reset),
     read (fun s => (s.readers.a, reply s)) [.unsubscribe .a] (asked .unsubscribe [] start211)) =
      (some (some (.notSubscribed, .none)), some (none, some (.ok, .none))) := by decide +kernel
theorem test_resume_dormant :
    read (fun s => (s.readers.a.map fun r => (r.state, r.send), reply s)) [.resume .a]
      { asked .resume [] (journalOf 11 3 .halt State.reset) with
        readers := ⟨some ⟨.dormant, 8, 9, 4, 200, 0, true, none, none⟩, none⟩ } =
      some (some (.active, 9), some (.ok, .resumed 8 9 4 false)) := by decide +kernel
theorem test_drop_reader_b :
    read (fun s => (s.readers.b, reply s)) [.dropReader .a] (asked .dropReader [1] start211) =
      some (none, some (.ok, .none)) := by decide +kernel

/-! ### Incidents (3.10, R56 to R61) -/

/-- The calls of Table 3-9, on a part whose group 7 has a settle time of 20 ms and a maximum duration of 150 ms, with
incident 40 of group 3 in slot 0. -/
def call310 (line : LineNo) (role : Role) (cls : ClassNo) (uptime : Uptime) : Call :=
  ⟨line, 7, role, cls, ⟨⟨0, 0⟩, .free⟩, uptime⟩
def incident40 : Incident :=
  openedIncident 40 GroupRule.default ⟨1, 3, .openOrJoin, 0, ⟨⟨0, 0⟩, .free⟩, 900000⟩
def start310 : State :=
  let active := { Bank.default with groups := Bank.default.groups.set 7 ⟨20, 150, 64⟩ }
  { at_ 1030300 State.reset with
    rules := { State.reset.rules with active := active }
    incidents := ⟨State.reset.incidents.slots.set 0 (some incident40), 41⟩ }
def joined310 : State :=
  let s := (incidentCall (call310 12 .openOrJoin 2 1000000) start310).1
  let s := (incidentCall (call310 13 .joinOnly 5 999900) s).1
  (incidentCall (call310 12 .openOrJoin 2 1015000) s).1
theorem test_table_3_9_joins :
    (joined310.incidents.slots[1].map fun x => (x.id, x.members, x.memberSet)) = some (41, 3, 0x3000) ∧
      (joined310.incidents.slots[1].map fun x => (x.firstUptime, x.lastUptime, x.highest)) =
        some (999900, 1015000, 5) ∧
      (joined310.incidents.slots[1].map fun x => (x.quietDeadline, x.durationDeadline)) =
        some (1035000, some 1150000) ∧ joined310.incidents.nextId = 42 := by decide +kernel
theorem test_table_3_9_close :
    ((incidentCall (call310 14 .close 1 1030000) joined310).2.closed.map fun c =>
      (c.reason, c.members, c.memberSet)) = some (.line, 4, 0x7000) ∧
      ((incidentCall (call310 14 .close 1 1030000) joined310).2.closed.map fun c => (c.spanUs, c.openUs)) =
        some (30100, 30400) ∧
      (incidentCall (call310 14 .close 1 1030000) joined310).1.incidents.slots[1] = none := by decide +kernel
/-- Incident timers close at their deadlines and not before (R56, R57). -/
theorem test_quiet_expiry :
    read (fun s => (s.incidents.slots[1], s.journal.held.length)) [.quietTimerExpiry 1] (at_ 1035000 joined310) =
        some (none, 2) ∧
      read (fun s => s.incidents.slots[1].isSome) [.quietTimerExpiry 1] (at_ 1034999 joined310) = some true := by
  decide +kernel
theorem test_duration_expiry :
    read (fun s => s.incidents.slots[1]) [.durationTimerExpiry 1] (at_ 1150000 joined310) = some none ∧
      read (fun s => s.incidents.slots[1].isSome) [.durationTimerExpiry 1] (at_ 1149999 joined310) = some true := by
  decide +kernel
theorem test_close_incident :
    read (fun s => (s.incidents.slots[0], reply s)) [.closeIncident .a] (asked .closeIncident [0, 40] start310) =
        some (none, some (.ok, .none)) ∧
      read reply [.closeIncident .a] (asked .closeIncident [0, 39] start310) = some (some (.notOpen, .none)) := by
  decide +kernel
theorem test_list_incidents :
    read reply [.listIncidents .a] (asked .listIncidents [1] joined310) =
      some (some (.ok, .incidents 42 2 (match joined310.incidents.slots[1] with
        | some x => [⟨1, x, 4700, some 119700⟩]
        | none => []) none)) := by decide +kernel

/-! ### Lines (4.9, 4.10) -/

/-- Table 4-6: the third HIGH sample in a row, at 10,400, confirms the change that began at 10,200. -/
def sampleAt (now : Uptime) (pins : BitVec 32) (s : State) : Option State :=
  after [.sampleInstant pins] { at_ now s with nextSample := now }
theorem test_table_4_6_confirms :
    ((sampleAt 10200 pin9 (line9 idleLine State.reset)).bind fun s => (sampleAt 10300 pin9 s).bind fun s =>
      (sampleAt 10400 pin9 s).map fun s => (s.lines[9], s.fifo)) =
      some ({ idleLine with raw := true, latest := .high, settled := .high, chatterCount := 1, window := some 60400 },
        [.front (.change ⟨9, .high, ⟨⟨0, 0⟩, .unset⟩, 10200, none, false⟩)]) := by decide +kernel
theorem test_table_4_6_bounce :
    ((sampleAt 10000 pin9 (line9 idleLine State.reset)).bind fun s =>
      (sampleAt 10100 0 s).map fun s => (s.lines[9], s.fifo)) = some (idleLine, []) := by decide +kernel
/-- Table 4-6 at 30,200: the third confirmed change locks line 9 out. -/
def beforeLockout : Line :=
  { idleLine with phase := .confirming 2 ⟨⟨0, 0⟩, .unset⟩ 30000, chatterCount := 2, window := some 60400,
                  raw := true, latest := .high }
theorem test_table_4_6_locks_out :
    ((sampleAt 30200 pin9 (line9 beforeLockout State.reset)).map fun s => (s.lines[9].phase, s.lines[9].release)) =
        some (.lockedOut .high, some 230200) ∧
      ((sampleAt 30200 pin9 (line9 beforeLockout State.reset)).map fun s => (s.fifo,
        s.exceptions.slots[0].map fun e => (e.kind, e.subject))) =
        some ([.front (.change ⟨9, .high, ⟨⟨0, 0⟩, .unset⟩, 30000, some 3, false⟩)],
          some (.chatterLock, .line 9)) := by decide +kernel
/-- Table 4-6 at 290,000: the RELEASE entry. -/
def lockedLine : Line :=
  { idleLine with phase := .lockedOut .high, settled := .high, chatterCount := 3, release := some 290000 }
theorem test_table_4_6_release :
    read (fun s => (s.lines[9], s.fifo)) [.releaseTimerExpiry 9] (at_ 290000 (line9 lockedLine State.reset)) =
      some (idleLine, [.front (.release ⟨9, .high, .low, ⟨⟨0, 0⟩, .unset⟩, 290000, false⟩)]) := by decide +kernel
theorem test_chatter_window_expiry :
    read (fun s => (s.lines[9].chatterCount, s.lines[9].window)) [.chatterWindowExpiry 9]
      (at_ 60400 (line9 beforeLockout State.reset)) = some (0, none) := by decide +kernel
/-- Table 4-7: lines 3, 11 and 20 held; one place admits line 3, two admit 3 and 11; a take admits within itself. -/
def heldChange (i : LineNo) : FrontEntry := .change ⟨i, .high, ⟨⟨0, 0⟩, .unset⟩, 0, none, true⟩
def full47 (n : Nat) : State :=
  let held (i : LineNo) : Line := { idleLine with held := some (heldChange i) }
  { State.reset with
    fifo := List.replicate n (.marker .a)
    lines := ((State.reset.lines.set 3 (held 3)).set 11 (held 11)).set 20 (held 20) }
theorem test_table_4_7_admission :
    read (fun s => (s.heldSet, s.fifo.length)) [.heldEntryAdmission] (full47 64) = some (0x00100808, 64) ∧
      read (fun s => (s.heldSet, s.fifo.getLast?)) [.heldEntryAdmission] (full47 63) =
        some (0x00100800, some (.front (heldChange 3))) ∧
      read (fun s => (s.heldSet, s.fifo.length)) [.heldEntryAdmission] (full47 61) = some (0, 64) ∧
      read (fun s => (s.heldSet, s.fifo.length, s.fifo.getLast?)) [.classifierTakeEntry] (full47 64) =
        some (0x00100800, 64, some (.front (heldChange 3))) := by decide +kernel
theorem test_snapshot_busy_and_ok :
    read reply [.takeSnapshot .a] (asked .takeSnapshot [] (full47 61)) = some (some (.busy, .none)) ∧
      read (fun s => (s.fifo, reply s)) [.takeSnapshot .a] (asked .takeSnapshot [] State.reset) =
        some ([.marker .a], some (.ok, .none)) := by decide +kernel
theorem test_get_lines :
    read reply [.getLines .a] (asked .getLines [] State.reset) =
      some (some (.ok, .lines (List.replicate 32 ⟨false, .low, .off, false, 0⟩) 0)) := by decide +kernel

/-! ### Classification (6.7) -/

/-- The third entry of Table 6-7 and the records it appends, with next sequence number 201. -/
def entry67 : FifoEntry := .front (.change ⟨9, .high, ⟨⟨0, 30000⟩, .free⟩, 30000, some 3, false⟩)
def start67 : State := { line9 idleLine (journalOf 201 0 .halt State.reset) with fifo := [entry67] }
/-- Its LINE_CHANGE and its CHATTER_ON, one record a command (log 16). -/
theorem test_table_6_7_locks_out :
    read (fun s => (s.classifier.levels, s.classifier.lockouts, s.alert.latest)) [.classifierTakeEntry] start67 =
        some (0x200, 0, some 201) ∧
      read (fun s => (s.classifier.lockouts, s.journal.held.map fun r => (r.seq, r.flags.alert, r.body)))
          [.classifierTakeEntry, .classifierTakeEntry] start67 =
        some (0x200, [(201, true, .lineChange 9 .high 4 none), (202, false, .chatterOn 9 .high 3 4)]) := by
  decide +kernel
theorem test_table_6_7_snapshot_and_release :
    read (fun s => s.journal.held.map fun r => (r.seq, r.body)) [.classifierTakeEntry]
      { start67 with fifo := [.marker .a], classifier := ⟨0x200, 0x200, 0, none⟩ } =
      some [(201, .snapshot 0x200 0x200 0xFFFFFDFF .a)] ∧
    read (fun s => (s.classifier.levels, s.classifier.lockouts, s.journal.held.map fun r => r.body))
      [.classifierTakeEntry] { start67 with
        fifo := [.front (.release ⟨9, .high, .low, ⟨⟨0, 290000⟩, .free⟩, 290000, false⟩)]
        classifier := ⟨0x200, 0x200, 0, none⟩ } = some (0, 0, [.chatterOff 9 .high .low 4]) := by decide +kernel
theorem test_marker_waits_for_priming :
    read (fun s => (s.classifier.inHand, s.journal.held.length)) [.classifierTakeEntry, .deferredSnapshotBuild]
        { start67 with fifo := [.marker .b], classifier := ⟨0, 0, 0x200, none⟩ } =
        some (some (.marker ⟨.b, 0xFFFFFDFF⟩), 0) ∧
      read (fun s => (s.classifier.inHand, s.journal.held.map fun r => r.body)) [.deferredSnapshotBuild]
        { start67 with classifier := ⟨0, 0, 0, some (.marker ⟨.b, 0xFFFFFDFF⟩)⟩ } =
        some (none, [.snapshot 0 0 0xFFFFFDFF .b]) := by decide +kernel

/-! ### Time (5.9) -/

/-- A time base of 5.9: SYNC on, RISING, window 200 us, holdover limit 10 s, threshold 50 us. -/
def time59 (now : Uptime) (seconds : BitVec 32) (micros : Fin 1000000) (quality : Quality) (good : Nat)
    (last : Option Uptime) : State :=
  { State.reset with clock := { TimeBase.reset with
      uptime := now, timeOfDay := ⟨seconds, micros⟩, quality := quality, goodCount := good, lastPulse := last
      missingPulse := if quality = .locked then some 12500120 else none
      holdover := if quality = .holdover then some ⟨12500120, 22500120⟩ else none
      options := ⟨true, .rising, 200, 10, 50⟩ } }
theorem test_table_5_5_first_edge :
    read (fun s => (s.clock.timeOfDay, s.clock.goodCount, s.journal.held.drop 1 |>.map fun r => r.body))
      [.syncEdge .rising] (time59 5000000 3 412600 .free 0 none) =
      some (⟨3, 0⟩, 0, [.timeStep (-412600)]) := by decide +kernel
theorem test_table_5_5_locks :
    read (fun s => (s.clock.quality, s.clock.missingPulse, s.journal.held.drop 1 |>.map fun r => r.body))
      [.syncEdge .rising] (time59 8000060 6 20 .free 2 (some 7000040)) =
      some (.locked, some 9500060, [.qualityChange .free .locked]) := by decide +kernel
theorem test_table_5_5_stray_and_glitch :
    read (fun s => (s.clock.outlierCount, s.clock.timeOfDay, s.journal.held.length)) [.syncEdge .rising]
        (time59 9600000 7 599920 .locked 0 (some 9000080)) = some (1, ⟨7, 599920⟩, 1) ∧
      read (fun s => (s.clock.outlierCount, s.clock.lastPulse)) [.syncEdge .rising]
        (time59 9200000 7 199920 .locked 0 (some 9000080)) = some (0, some 9000080) := by decide +kernel
theorem test_table_5_5_missing_pulse :
    read (fun s => (s.clock.quality, s.clock.holdover, s.exceptions.slots[0].map (·.kind)))
      [.missingPulseTimerExpiry] (time59 12500120 10 500000 .locked 0 (some 11000120)) =
      some (.holdover, some ⟨12500120, 22500120⟩, some .timeDegraded) := by decide +kernel
theorem test_table_5_5_relocks :
    read (fun s => (s.clock.quality, s.journal.held.drop 1 |>.map fun r => r.body)) [.syncEdge .rising]
      (time59 20000300 18 180 .holdover 0 (some 11000120)) =
      some (.locked, [.timeStep (-180), .qualityChange .holdover .locked]) := by decide +kernel
theorem test_holdover_expiry :
    read (fun s => (s.clock.quality, s.clock.holdover)) [.holdoverTimerExpiry]
      (time59 22500120 20 0 .holdover 0 none) = some (.free, none) := by decide +kernel
/-- SET_TIME 2.612,600 at 4,200,000 (Table 5-5). -/
theorem test_table_5_5_set_time :
    read (fun s => (s.clock.timeOfDay, s.clock.quality, s.journal.held.drop 1 |>.map fun r => r.body)) [.setTime .a]
      (asked .setTime [0, 0, 0, 2, 0x09, 0x58, 0xF8] (time59 4200000 4 200000 .unset 0 none)) =
      some (⟨2, 612600⟩, .free, [.timeSet ⟨4, 200000⟩ ⟨2, 612600⟩ .unset, .qualityChange .unset .free]) := by
  decide +kernel
theorem test_set_time_options :
    read (fun s => (s.clock.options, reply s)) [.setTimeOptions .a]
        (asked .setTimeOptions [1, 0, 0, 200, 0, 10, 0, 50] State.reset) =
        some (⟨true, .rising, 200, 10, 50⟩, some (.ok, .none)) ∧
      read reply [.setTimeOptions .a] (asked .setTimeOptions [1, 0, 0, 9, 0, 10, 0, 50] State.reset) =
        some (some (.badValue, .none)) := by decide +kernel
/-- HOLDOVER, entered at uptime 0 under a holdover limit of 600 s, at uptime 20 s. -/
def lapsing : State :=
  let s := time59 20000000 20 0 .holdover 0 none
  { s with clock := { s.clock with holdover := some ⟨0, 600000000⟩, options := ⟨true, .rising, 200, 600, 50⟩ } }
/-- SYNC turned off frees LOCKED time; a new limit of 10 s, past at 20 s, expires straight away (R93, R99). -/
theorem test_options_free_the_time :
    read (fun s => (s.clock.quality, s.clock.missingPulse, s.exceptions.slots[0].map (·.kind))) [.setTimeOptions .a]
      (asked .setTimeOptions [0, 0, 0, 200, 0, 10, 0, 50] (time59 8000060 6 20 .locked 0 none)) =
      some (.free, none, some .timeDegraded) ∧
    read (fun s => (s.clock.quality, s.clock.holdover, s.journal.held.drop 1 |>.map fun r => r.body))
      [.setTimeOptions .a] (asked .setTimeOptions [1, 0, 0, 200, 0, 10, 0, 50] lapsing) =
      some (.free, none, [.qualityChange .holdover .free]) ∧
    read (fun s => (s.clock.quality, s.clock.holdover)) [.setTimeOptions .a]
      (asked .setTimeOptions [1, 0, 0, 200, 0, 30, 0, 50] lapsing) =
      some (.holdover, some ⟨0, 30000000⟩) := by decide +kernel
theorem test_get_time :
    read reply [.getTime .a] (asked .getTime [] (time59 8000060 6 20 .free 2 (some 7000040))) =
      some (some (.ok, .time ⟨⟨6, 20⟩, .free, 8000060, none, 2, 0, some 1000020, ⟨true, .rising, 200, 10, 50⟩⟩)) := by
  decide +kernel
/-- One microsecond carries into the seconds (R89). -/
theorem test_tick_carries :
    (match step (time59 7 0xFFFFFFFF 999999 .free 0 none) with
      | .next t => some (t.clock.uptime, t.clock.timeOfDay)
      | _ => none) = some (8, ⟨0, 0⟩) := by decide +kernel

/-- A call's action of 3.2: `entry67` under `role` of group 3, whose incident 40 is open with its quiet deadline past,
and a SYNC edge that moves the time of day. -/
def action49 (role : Role) : State :=
  { line9 idleLine (journalOf 201 0 .halt (time59 5000000 3 412600 .free 0 none)) with
    fifo := [entry67]
    rules := { State.reset.rules with active := { Bank.default with
      lines := Bank.default.lines.set 9 { rule9 with group := some 3, role := role } } }
    incidents := start310.incidents }
/-- TIME_STEP (0x07) falls between a call's LINE_CHANGE (0x01) and INCIDENT_CLOSE (0x04), CHATTER_ON (0x02) is last
(R4, R49). -/
theorem test_time_base_appends_within_action :
    read (fun s => (s.classifier.inHand, s.journal.held.map fun r => r.body.code))
      [.classifierTakeEntry, .syncEdge .rising, .classifierTakeEntry, .classifierTakeEntry] (action49 .close) =
      some (none, [0x01, 0x07, 0x04, 0x02]) := by decide +kernel
/-- A quiet expiry and a CLOSE_INCIDENT during a call's action are taken after it (R49, R56, R60). -/
theorem test_expiry_waits_for_action :
    read (fun s => s.journal.held.map fun r => r.body.code)
      [.classifierTakeEntry, .quietTimerExpiry 0, .classifierTakeEntry, .quietTimerExpiry 0] (action49 .joinOnly) =
      some [0x01, 0x02, 0x04] := by decide +kernel
theorem test_close_incident_waits_for_action :
    (after [.classifierTakeEntry] (action49 .joinOnly)).bind (fun s =>
      read (fun s => (s.ports.a.requests.length, s.incidents.slots[0].isSome, reply s)) [.closeIncident .a]
        (asked .closeIncident [0, 40] s)) = some (1, true, none) := by decide +kernel

/-! ### Rules and switching (7.9) -/

/-- WRITE_LINE_RULE of line 20 with chatter limit 10, debounce 200 and a window in milliseconds (7.9). -/
def line20Bytes (hi lo : Byte) : List Byte := [20, 1, 0, 200, 10, hi, lo, 0x07, 0xD0, 2, 0, 0, 0xFF, 0]
def rule20 (windowMs : Nat) : LineRule :=
  { LineRule.default with mode := .capture, debounce := 200, chatterLimit := 10, chatterWindowMs := windowMs }
def staged79 (windowMs maxDurationMs : Nat) : Bank :=
  let member (role : Role) : LineRule := { LineRule.default with mode := .capture, group := some 3, role := role }
  { lines := ((Bank.default.lines.set 20 (rule20 windowMs)).set 6 (member .openOrJoin)).set 5 (member .joinOnly)
    groups := Bank.default.groups.set 3 ⟨500, maxDurationMs, 64⟩
    period := .us500 }
theorem test_write_line_rule :
    read (fun s => (s.rules.staged.lines[20], reply s)) [.writeLineRule .a]
        (asked .writeLineRule (line20Bytes 0x03 0xE7) State.reset) = some (rule20 999, some (.ok, .none)) ∧
      read reply [.writeLineRule .a] (asked .writeLineRule (line20Bytes 0 9) State.reset) =
        some (some (.badValue, .none)) := by decide +kernel
theorem test_write_group_rule :
    read (fun s => (s.rules.staged.groups[3], reply s)) [.writeGroupRule .a]
      (asked .writeGroupRule [3, 0x01, 0xF4, 0x00, 0x09, 0x27, 0xC0, 64] State.reset) =
      some (⟨500, 600000, 64⟩, some (.ok, .none)) := by decide +kernel
theorem test_write_global_rule :
    read (fun s => s.rules.staged.period) [.writeGlobalRule .a] (asked .writeGlobalRule [0x01, 0xF4] State.reset) =
        some .us500 ∧
      read reply [.writeGlobalRule .a] (asked .writeGlobalRule [0, 51] State.reset) =
        some (some (.badValue, .none)) := by decide +kernel
theorem test_copy_active_busy_while_switching :
    read reply [.copyActiveToStaged .a] { asked .copyActiveToStaged [] State.reset with
      switch := ⟨.draining, none, .none⟩ } = some (some (.busy, .none)) := by decide +kernel
theorem test_copy_active :
    read (fun s => s.rules.staged.lines[20]) [.copyActiveToStaged .a] { asked .copyActiveToStaged [] State.reset with
      rules := ⟨Bank.default, staged79 999 300, 5⟩ } = some LineRule.default := by decide +kernel
theorem test_read_rule :
    read reply [.readRule .a] (asked .readRule [1, 0, 20]
      { State.reset with rules := ⟨Bank.default, staged79 999 300, 5⟩ }) =
      some (some (.ok, .rule ⟨.staged, .line, 20, 5, false, .line (rule20 999)⟩)) := by decide +kernel
/-- The two rejections of Table 7-6, and the third validation, which passes. -/
theorem test_table_7_6_validations :
    validate (staged79 999 300) false = some ⟨.line, 20, .chatterUnreachable⟩ ∧
      validate (staged79 1000 300) false = some ⟨.group, 3, .durationBelowSettle⟩ ∧
      validate (staged79 1000 600000) false = none := by decide +kernel
def switch79 (windowMs maxDurationMs : Nat) : State :=
  { asked .switchRules [] State.reset with rules := ⟨Bank.default, staged79 windowMs maxDurationMs, 5⟩ }
theorem test_table_7_6_rejected :
    read (fun s => (s.switch.phase, s.exceptions.slots[0].map (·.kind), s.ports.a.waiting))
      [.switchRules .a, .validationCompletion false] (switch79 999 300) =
      some (.idle, some .switchRejected, [.reply false ⟨0x1D, 7, .accepted, .none⟩,
        .switchDone (.rejected ⟨.line, 20, .chatterUnreachable⟩)]) := by decide +kernel
/-- Table 7-7: the switch instant closes incident 12 (802), records the switch (803) and admits lines 4 and 7. -/
def drained79 : State :=
  let held (i : LineNo) : Line := { idleLine with held := some (heldChange i) }
  { journalOf 802 0 .halt State.reset with
    rules := ⟨staged79 1000 600000, staged79 1000 600000, 5⟩
    switch := ⟨.draining, some ⟨.a, 7⟩, .none⟩
    incidents := ⟨State.reset.incidents.slots.set 0 (some { incident40 with id := 12 }), 41⟩
    lines := (State.reset.lines.set 4 (held 4)).set 7 (held 7) }
theorem test_table_7_7_switch_instant :
    read (fun s => (s.switch.phase, s.rules.generation, s.journal.held.map fun r => (r.seq, r.generation)))
        [.switchInstant] drained79 = some (.idle, 6, [(802, 5), (803, 5)]) ∧
      read (fun s => (s.journal.held.getLast?.map (·.body), s.fifo)) [.switchInstant] drained79 =
        some (some (.rulesetSwitch 5 6 1), [.front (heldChange 4), .front (heldChange 7)]) ∧
      read (fun s => (s.incidents.slots[0], s.switch.outcome)) [.switchInstant] drained79 =
        some (none, .switched ⟨5, 6, 1, some 803⟩) := by decide +kernel
theorem test_abort_switch :
    read (fun s => (s.switch.outcome, reply s)) [.abortSwitch .a] { asked .abortSwitch [] State.reset with
        switch := ⟨.validating false true, some ⟨.a, 1⟩, .none⟩ } = some (.aborted, some (.ok, .none)) ∧
      read reply [.abortSwitch .a] { asked .abortSwitch [] State.reset with
        switch := ⟨.draining, some ⟨.a, 1⟩, .none⟩ } = some (some (.tooLate, .none)) := by decide +kernel
theorem test_get_switch_status :
    read reply [.getSwitchStatus .a] (asked .getSwitchStatus [] drained79) =
      some (some (.ok, .switchStatus ⟨.draining, some ⟨.a, 7⟩, .none, 5, 0, 0x90⟩)) := by decide +kernel

/-! ### Alerts and exceptions (8.8, 8.9) -/

/-- Table 8-6: the alert of record 215, with thresholds 3 on Port A and 5 on Port B, and the STALE clear of 200. -/
def alerted88 : State :=
  let listening (t : ClassNo) : Session := { session1 with alertFrames := true, threshold := t }
  { journalOf 215 0 .halt State.reset with ports := ⟨{ PortState.reset with session := some (listening 3) },
      { PortState.reset with session := some (listening 5) }⟩ }
theorem test_table_8_6_thresholds :
    ((offer ⟨.lineChange 9 .high 4 none, none, { alert := true }⟩ alerted88).ports.a.waiting.length,
      (offer ⟨.lineChange 9 .high 4 none, none, { alert := true }⟩ alerted88).ports.b.waiting.length,
      (offer ⟨.lineChange 14 .high 6 none, none, { alert := true }⟩ alerted88).ports.b.waiting.length) =
      (1, 0, 1) := by decide +kernel
theorem test_table_8_6_stale_and_clear :
    read (fun s => (s.alert.nAlertLow, reply s)) [.clearAlert .a] (asked .clearAlert [0, 0, 0, 200]
        { journalOf 231 0 .halt State.reset with alert := ⟨true, some 215, false, true⟩ }) =
        some (true, some (.stale, .alert true (some 215))) ∧
      read (fun s => (s.alert.nAlertLow, reply s)) [.clearAlert .a] (asked .clearAlert [0, 0, 0, 230]
        { journalOf 231 0 .halt State.reset with alert := ⟨true, some 230, false, true⟩ }) =
        some (false, some (.ok, .alert false (some 230))) := by decide +kernel
/-- Table 8-7: coalescing and the overflow of a full table. -/
def eight : State :=
  let s := raise (.chatterLock) (.line 9) State.reset
  let s := raise .eventsHeld .none s
  let s := raise .chatterLock (.line 9) s
  let s := raise .recordsOverwritten (.port .b) s
  let s := raise .chatterLock (.line 10) s
  let s := raise .chatterLock (.line 11) s
  let s := raise .incidentTableFull (.group 2) s
  let s := raise .linkError (.port .a) s
  raise .sessionLost (.port .b) s
theorem test_table_8_7_coalesces :
    (eight.exceptions.occupied, eight.exceptions.slots[0].map (·.count), eight.exceptions.overflow) =
        (0xFF, some 2, false) ∧
      (raise .timeDegraded .none eight).exceptions = { eight.exceptions with overflow := true } := by decide +kernel
theorem test_table_8_7_frozen_then_cleared :
    read (fun s => (s.exceptions.occupied, reply s)) [.clearException .a]
        (asked .clearException [0] (raise .timeDegraded .none eight)) =
        some (0xFE, some (.ok, .occupied 0xFE true)) ∧
      read reply [.clearException .a] (asked .clearException [0xFF] (raise .timeDegraded .none eight)) =
        some (some (.ok, .occupied 0 false)) := by decide +kernel
/-- Table 8-7: notices turned on with the flag set are offered the frozen table. -/
theorem test_table_8_7_late_notice :
    read (fun s => (s.ports.a.waiting.head?, s.ports.a.session.map (·.noticePending))) [.setSessionOptions .a]
      (let s := asked .setSessionOptions [0, 0, 1] (raise .timeDegraded .none eight)
       s.setSession .a (some { session1 with noticePending := true })) =
      some (some (.notice 0xFF true), some false) := by decide +kernel
theorem test_get_exceptions :
    read reply [.getExceptions .a] (asked .getExceptions [] (raise .eventsHeld .none State.reset)) =
      some (some (.ok, .exceptions (some ⟨.eventsHeld, .none, 0, 0, 1⟩ :: List.replicate 7 none) false (some 0))) := by
  decide +kernel
theorem test_no_word_spells_a_command : decodeTableWord 16 0x1234 = none := rfl

/-! ### Witnesses: hypotheses of the statements that a state meets, clause by clause -/

theorem ready_asked {k : RequestKind} {payload : List Byte} {s : State} (hr : s.restart = none)
    (hl : payload.length = k.length) : Ready (asked k payload s) .a k ⟨k.code, 7, payload⟩ where
  takable := by simp [asked, withSession, State.takable, hr]
  kind := rfl
  fresh := by simp [asked, State.storedReply]
  session := .inr (by simp [asked, withSession])
  length := hl

theorem holdsClaim_asked (k : RequestKind) (payload : List Byte) (s : State) :
    (asked k payload s).holdsClaim .a = true := by
  simp [asked, withSession, State.holdsClaim, session1]

theorem runFrom_run (next : Seq) (n : Nat) : runFrom next (run next n) ∧ (run next n).length = n := by
  induction n with
  | zero => exact ⟨trivial, rfl⟩
  | succ n ih => exact ⟨⟨by rw [ih.2], ih.1⟩, by simp [run, ih.2]⟩

/-- The request a test asks with. -/
def q (k : RequestKind) (payload : List Byte) : Request := ⟨k.code, 7, payload⟩

/-- `s` with reader A. -/
def withReader (r : Subscription) (s : State) : State := { s with readers := ⟨some r, s.readers.b⟩ }
def reader (state : SubState) (ack send : Seq) : Subscription := ⟨state, ack, send, 4, 200, 0, true, some 200, none⟩

/-- `s` with an entry of line 9 in the classifier's hand, under `rule`. -/
def inHand9 (rule : LineRule) (left : List RecordToBuild) (called : Bool) (s : State) : State :=
  { s with classifier := { s.classifier with
      inHand := some (.entry ⟨⟨9, .high, ⟨⟨0, 30000⟩, .free⟩, 30000, false, false⟩, rule, left, called⟩) } }

theorem witness_StepRunsCommandInFront :
    ({ State.reset with pending := [.heldEntryAdmission] } : State).pending = .heldEntryAdmission :: [] := rfl
theorem witness_EmptyQueueStepIsOneMicrosecond :
    State.reset.pending = [] ∧ (time59 0 0 999998 .free 0 none).clock.timeOfDay.micros.val < 999999 ∧
      (time59 0 0 999999 .free 0 none).clock.timeOfDay.micros.val = 999999 := by decide +kernel
def restarting (o : RestartOption) (p : Port) : State :=
  let f : Option Sending := some ⟨.reply false ⟨0x07, 7, .ok, .none⟩, 8⟩
  { State.reset with
    restart := some ⟨50000, o, p⟩
    ports := ⟨{ PortState.reset with sending := f }, { PortState.reset with sending := f }⟩ }
theorem witness_ResetsLeaveResetValues :
    (restarting .full .a).restart = some ⟨50000, .full, .a⟩ ∧ reached 50000 50000 = true ∧ reached 49999 50000 = false ∧
      ((restarting .keepTime .b).ports.get .b).sending = some ⟨.reply false ⟨0x07, 7, .ok, .none⟩, 8⟩ := by
  decide +kernel
def collecting (kept : List Byte) : State :=
  { State.reset with ports := ⟨{ PortState.reset with receiver := .collecting kept, gapTimer := some 5000 },
      PortState.reset⟩ }
theorem witness_ReceiverCollectsAndDiscards :
    (State.reset.ports.a.receiver = .hunting ∧ State.reset.ports.a.gapTimer = none ∧ (0xC2 : Byte) ≠ 0xC3) ∧
      ((collecting [250, 1]).ports.a.receiver = .collecting [250, 1] ∧ (250 : Byte).toNat ≤ 250 ∧
        [(1 : Byte)].length + 2 < (250 : Byte).toNat + 5) ∧
      ((collecting []).ports.a.receiver = .collecting [] ∧ 250 < (251 : Byte).toNat) ∧
      ((collecting (0 :: 4 :: 9 :: ([] ++ [0x91]))).ports.a.receiver = .collecting [0, 4, 9, 0x91] ∧
        crc16 [0, 4, 9] ≠ (0x91 : Byte) ++ (0x70 : Byte) ∧ crc16 [0, 4, 9] = (0x91 : Byte) ++ (0x71 : Byte)) ∧
      (∀ x ∈ [(250 : Byte), 1], x ≠ 0xC3) ∧
      reached 4999 5000 = false ∧ reached 5000 5000 = true := by decide +kernel
def sendingB (sent : Nat) : State :=
  { State.reset with ports := ⟨PortState.reset, { PortState.reset with
      sending := some ⟨.notice 0 false, sent⟩ }⟩ }
theorem witness_PortBShiftsOneByteOut :
    (sendingB 7).ports.b.sending = some ⟨.notice 0 false, 7⟩ ∧ 7 < (Frame.notice 0 false).bytes.length ∧
      (sendingB 8).ports.b.sending = some ⟨.notice 0 false, 8⟩ ∧ (Frame.notice 0 false).bytes.length ≤ 8 ∧
      State.reset.ports.b.sending = none ∧ State.reset.ports.b.waiting = [] ∧ State.reset.restart = none ∧
      (sendingB 7).nAttnLow = true ∧ read (·.nAttnLow) [.receiveByte .b 0 false] (sendingB 7) = some false ∧
      (∀ g ∈ [Frame.records []], (Frame.notice 0 false).rank < g.rank) ∧
      ∀ g ∈ [Frame.notice 1 false], (Frame.notice 0 false).rank ≤ g.rank := by decide +kernel
theorem witness_SentFrameArrivesAsItsRequest :
    (List.replicate 250 (0xC3 : Byte)).length ≤ 250 ∧ isPartKind 0x01 = false ∧
      State.reset.ports.a.receiver = .hunting ∧ State.reset.ports.a.requests.length < 4 ∧
      (∀ r ∈ State.reset.ports.a.requests, r.tag ≠ (7 : Byte)) ∧ State.reset.ports.b.inHand = false := by decide +kernel
def queued (n : Nat) (waiting : List Frame) : State :=
  { State.reset with ports := ⟨{ PortState.reset with
      requests := List.replicate n (q .ping []), waiting := waiting }, PortState.reset⟩ }
theorem witness_ArrivingRequestJoinsQueue :
    ((0x90 : Nat) ≤ (0x94 : Byte).toNat ∧ (0x94 : Byte).toNat ≤ 0x94 ∧ ¬((0x95 : Byte).toNat ≤ 0x94)) ∧
    ((queued 1 []).ports.a.requests.any fun r => r.tag == 7) = true ∧ (queued 3 []).ports.a.requests.length < 4 ∧
      4 ≤ (queued 4 []).ports.a.requests.length ∧ ((queued 4 []).ports.a.requests.any fun r => r.tag == 8) = false ∧
      .reply true ⟨0x04, 9, .queueFull, .none⟩ ∈
        (queued 4 [.reply true ⟨0x04, 9, .queueFull, .none⟩]).ports.a.waiting := by decide +kernel
theorem witness_TransmitterPicksByKind :
    (queued 0 [.records [], .gap 1 2 3, .gap 4 5 6]).ports.a.sending = none ∧
      (∀ g ∈ [Frame.records []], (Frame.gap 1 2 3).rank < g.rank) ∧
      (∀ g ∈ [Frame.gap 4 5 6], (Frame.gap 1 2 3).rank ≤ g.rank) ∧
      ((sendingB 8).ports.get .b).sending = some ⟨.notice 0 false, 8⟩ ∧
      (Frame.notice 0 false).bytes.length ≤ 8 ∧ (sendingB 8).restart = none := by decide +kernel
theorem witness_IdentifyAndPingReply :
    Ready (asked .identify [] State.reset) .a .identify (q .identify []) ∧
      Ready (asked .ping [] State.reset) .a .ping (q .ping []) := ⟨ready_asked rfl rfl, ready_asked rfl rfl⟩
theorem witness_OpenStartsNewSession :
    Ready (asked .openSession [1, 0, 100] State.reset) .a .openSession (q .openSession [1, 0, 100]) ∧
      Ready (asked .openSession [1, 0xEA, 0x60] State.reset) .a .openSession (q .openSession [1, 0xEA, 0x60]) ∧
      Ready (asked .openSession [1, 0, 99] State.reset) .a .openSession (q .openSession [1, 0, 99]) ∧
      Ready (asked .openSession [2, 0, 100] State.reset) .a .openSession (q .openSession [2, 0, 100]) :=
  ⟨ready_asked rfl rfl, ready_asked rfl rfl, ready_asked rfl rfl, ready_asked rfl rfl⟩
theorem witness_SessionEndReleasesItsHoldings :
    ((withSession State.reset).ports.get .a).session = some session1 ∧
      (withSession State.reset).claim = some ⟨.a, session1.number⟩ ∧
      (withReader (reader .active 5 9) (withSession State.reset)).readers.get .a = some (reader .active 5 9) ∧
      (reader .active 5 9).retain = true ∧ { reader .active 5 9 with retain := false }.state ≠ .dormant ∧
      (withReader (reader .dormant 5 6) (withSession State.reset)).readers.get .a = some (reader .dormant 5 6) ∧
      (withSession State.reset).readers.get .a = none ∧ (∀ f ∈ [Frame.notice 1 false], f.rank < 4) ∧
      (((withSession State.reset).queueFrame .a (.gap 1 2 3)).ports.get .a).waiting = [] ++ .gap 1 2 3 :: [] ∧
      Ready (asked .closeSession [] State.reset) .a .closeSession (q .closeSession []) ∧
      reached 1000000 session1.deadline = true ∧ reached 999999 session1.deadline = false :=
  ⟨rfl, rfl, rfl, rfl, by decide, rfl, rfl, by decide, rfl, ready_asked rfl rfl, by decide, by decide⟩
theorem witness_ClaimHasOneHolder :
    Ready (asked .claim [] State.reset) .a .claim (q .claim []) ∧
      Ready (asked .releaseClaim [] State.reset) .a .releaseClaim (q .releaseClaim []) ∧
      ((asked .claim [] State.reset).ports.get .a).session = some session1 ∧
      (asked .claim [] State.reset).claim = some ⟨.a, session1.number⟩ ∧
      RequestKind.needsClaim .clearJournal = true ∧
      Ready { asked .clearJournal [] State.reset with claim := some ⟨.b, 3⟩ } .a .clearJournal (q .clearJournal []) ∧
      State.holdsClaim { asked .clearJournal [] State.reset with claim := some ⟨.b, 3⟩ } .a = false ∧
      RequestKind.needsClaim .closeIncident = true ∧ State.reset.inAction = false :=
  ⟨ready_asked rfl rfl, ready_asked rfl rfl, rfl, rfl, rfl, ⟨rfl, rfl, rfl, .inr rfl, rfl⟩, rfl, rfl, rfl⟩
theorem witness_RestartStopsRequests :
    (∀ b ∈ [(0 : Byte), 1, 2], Ready (asked .restart [b] State.reset) .a .restart (q .restart [b])) ∧
      (asked .restart [0] State.reset).holdsClaim .a = true ∧ (restarting .full .a).restart.isSome = true :=
  ⟨fun _ _ => ready_asked rfl rfl, holdsClaim_asked _ _ _, rfl⟩
theorem witness_RequestChecksComeInOrder :
    (asked .ping [] State.reset).takable .a = some (q .ping []) ∧
      portB99.takable .b = some ⟨0x02, 22, [1, 0x07, 0xD0]⟩ ∧
      State.storedReply { portB99 with ports := ⟨PortState.reset, { portB99.ports.b with
        lastReply := some ⟨0x02, 22, .ok, .none⟩ }⟩ } .b ⟨0x02, 22, [1, 0x07, 0xD0]⟩ =
          some ⟨0x02, 22, .ok, .none⟩ ∧
      isRequestKind 0x24 = false ∧ isRequestKind 0x00 = false := by decide +kernel

theorem witness_AppendAccepts :
    ((journalOf 9000 2046 .halt State.reset).journal.held.length < 2047) ∧
      ((journalOf 9000 2047 .wrap State.reset).journal.held.length < 2048) :=
  ⟨by rw [show (journalOf 9000 2046 .halt State.reset).journal.held = run 9000 2046 from rfl, (runFrom_run _ _).2]; decide,
   by rw [show (journalOf 9000 2047 .wrap State.reset).journal.held = run 9000 2047 from rfl, (runFrom_run _ _).2]; decide⟩
def openMarker : Record :=
  ⟨9000, ⟨TimeOfDay.zero, .free⟩, 0, { markerOpen := true }, .overflow ⟨⟨TimeOfDay.zero, .free⟩,
    ⟨TimeOfDay.zero, .free⟩, 1, 0, 0⟩⟩
theorem witness_AppendRefuses :
    start18.journal.held.length = 2047 ∧ start18.journal.markerOpen = false ∧ start18.journal.mode = .halt ∧
      (run 9000 2047).length = 2047 ∧ openMarker.flags.markerOpen = true := by
  refine ⟨?_, by decide +kernel, rfl, (runFrom_run _ _).2, rfl⟩
  exact (runFrom_run 3048 2047).2
theorem witness_OldestRecordIsOverwritten :
    start211.journal.mode = .wrap ∧ (run 12049 2047).length = 2047 ∧
      (start211.readers.get .b).map (·.ack) = some 10000 ∧
      ((12049 : Seq) - 10001).toNat < ((12049 : Seq) - 10000).toNat ∧
      ((12049 : Seq) - 10001).toNat ≤ ((12049 : Seq) - 10001).toNat ∧
      portB99.ports.b.waiting = [] ++ .records (run 12 1) :: [] :=
  ⟨rfl, (runFrom_run _ _).2, rfl, by decide, by decide, rfl⟩
theorem witness_ReleaseDropsAcknowledged :
    (∀ p r, State.reset.readers.get p = some r → r.state = .dormant ∧ r.retain = false) ∧
      runFrom 11 (run 11 3) ∧ (run 11 3).length = 3 ∧
      (withReader (reader .active 8 9) (journalOf 11 3 .halt State.reset)).readers.get .a = some (reader .active 8 9) ∧
      ((11 : Seq) - 8).toNat = 3 ∧ ((11 : Seq) - 7).toNat = 4 :=
  ⟨(by intro p r h; cases p <;> cases h), (runFrom_run _ _).1, (runFrom_run _ _).2, rfl, by decide, by decide⟩
theorem witness_JournalIsClearedAndItsModeSet :
    Ready (asked .clearJournal [] State.reset) .a .clearJournal (q .clearJournal []) ∧
      (∀ b ∈ [(0 : Byte), 1, 2],
        Ready (asked .setJournalMode [b] State.reset) .a .setJournalMode (q .setJournalMode [b])) ∧
      (asked .setJournalMode [0] (journalOf 9000 2047 .wrap State.reset)).journal.held.length < 2048 ∧
      (asked .setJournalMode [0] (journalOf 9000 2048 .wrap State.reset)).journal.held.length = 2048 ∧
      openMarker.isOpenMarker = true ∧ (asked .setJournalMode [1] State.reset).journal.markerOpen = false := by
  refine ⟨ready_asked rfl rfl, fun _ _ => ready_asked rfl rfl, ?_, (runFrom_run 9000 2048).2, rfl, rfl⟩
  rw [show (asked .setJournalMode [0] (journalOf 9000 2047 .wrap State.reset)).journal.held = run 9000 2047 from rfl,
    (runFrom_run _ _).2]
  decide
theorem witness_JournalIsRead :
    runFrom 11 (run 11 3) ∧ (∀ b ∈ [(0 : Byte), 1, 4, 5], Ready
      (asked .readRecords (seqBytes 8 ++ [b]) (journalOf 11 3 .halt State.reset)) .a .readRecords
      (q .readRecords (seqBytes 8 ++ [b]))) ∧
      ((11 : Seq) - 8).toNat = 3 ∧ ((11 : Seq) - 7).toNat = 4 ∧ ((11 : Seq) - 11).toNat = 0 ∧
      Ready (asked .getJournalStatus [] State.reset) .a .getJournalStatus (q .getJournalStatus []) :=
  ⟨(runFrom_run _ _).1, fun _ _ => ready_asked rfl rfl, by decide, by decide, by decide, ready_asked rfl rfl⟩
theorem witness_RecordsHaveTheirLengths : (run 11 4).length ≤ 4 := by decide

theorem witness_SubscribeSetsReaderUp :
    (∀ code ∈ [(0 : Byte), 1, 2, 3], ∀ window ∈ [(0 : Byte), 1, 16, 17],
      Ready (asked .subscribe (code :: (seqBytes 8 ++ [window, 0, 20, 1])) (journalOf 11 3 .halt State.reset)) .a
        .subscribe (q .subscribe (code :: (seqBytes 8 ++ [window, 0, 20, 1])))) ∧
      ((11 : Seq) - 8).toNat ≤ 3 ∧ 3 < ((11 : Seq) - 7).toNat :=
  ⟨fun _ _ _ _ => ready_asked rfl rfl, by decide, by decide⟩
theorem witness_ReadersResumeAndEnd :
    Ready (asked .resume [] State.reset) .a .resume (q .resume []) ∧
      Ready (asked .unsubscribe [] State.reset) .a .unsubscribe (q .unsubscribe []) ∧
      (∀ b ∈ [(0 : Byte), 1, 2], Ready (asked .dropReader [b] State.reset) .a .dropReader (q .dropReader [b])) ∧
      (asked .resume [] (withReader (reader .dormant 5 6) State.reset)).readers.get .a = some (reader .dormant 5 6) :=
  ⟨ready_asked rfl rfl, ready_asked rfl rfl, fun _ _ => ready_asked rfl rfl, rfl⟩
theorem witness_AckMovesAckPoint :
    (∀ n ∈ [(5 : Seq), 6, 8, 9], Ready (asked .ack (seqBytes n) (withReader (reader .stalled 5 9)
      (journalOf 11 8 .halt State.reset))) .a .ack (q .ack (seqBytes n))) ∧
      (withReader (reader .stalled 5 9) (journalOf 11 8 .halt State.reset)).readers.get .a =
        some (reader .stalled 5 9) ∧
      ((11 : Seq) - 9).toNat < ((11 : Seq) - 8).toNat ∧ ((11 : Seq) - 8).toNat < ((11 : Seq) - 5).toNat ∧
      2064 < ((11 : Seq) - 4294965242).toNat ∧ ((11 : Seq) - 4294965243).toNat ≤ 2064 :=
  ⟨fun _ _ => ready_asked rfl rfl, rfl, by decide, by decide, by decide, by decide⟩
theorem journal_ok (n : Nat) (h : n < 2048) : Journal.Ok ⟨run 11 n, 11, .halt⟩ := by
  have hm : ∀ (m : Nat), ∀ r ∈ run 11 m, r.isOpenMarker = false := by
    intro m
    induction m with
    | zero => simp [run]
    | succ m ih => intro r hr; rcases List.mem_cons.1 hr with rfl | hr
                   · rfl
                   · exact ih r hr
  have hl : (run 11 n).length = n := (runFrom_run 11 n).2
  refine ⟨by simp only [hl]; exact Nat.le_of_lt h, (runFrom_run _ _).1, fun r hr => hm n r (List.mem_of_mem_dropLast hr), ?_⟩
  have : Journal.markerOpen ⟨run 11 n, 11, .halt⟩ = false := by
    unfold Journal.markerOpen
    split
    · rename_i r hr; exact hm n r (List.mem_of_getLast? hr)
    · rfl
  simp only [this, hl]
  constructor
  · exact fun h => by cases h
  · exact fun hh => absurd hh.2 (Nat.ne_of_lt h)
theorem witness_ReaderSendsAndGoesBack :
    Journal.Ok ⟨run 11 8, 11, .halt⟩ ∧
      (withReader (reader .active 5 6) (journalOf 11 8 .halt State.reset)).readers.get .a = some (reader .active 5 6) ∧
      ((6 : Seq) - 5 - 1).toNat < 4 ∧ ((11 : Seq) - 6).toNat ≤ (run 11 8).length ∧
      resumed211.readers.get .b = some ⟨.active, 10003, 10004, 4, 200, 0, true, none, some (10001, 10003)⟩ ∧
      (withReader (reader .active 5 9) State.reset).readers.get .a = some (reader .active 5 9) ∧
      (reader .active 5 9).timer = some 200 ∧ reached 199 200 = false ∧ reached 200 200 = true :=
  ⟨journal_ok 8 (by decide), rfl, by decide, by decide, rfl, rfl, rfl, by decide, by decide⟩

theorem witness_AlertIsTakenAndOffered :
    (alerted88.ports.get .a).session = some { session1 with alertFrames := true, threshold := 3 } ∧
      (3 : ClassNo) ≤ 3 ∧ (2 : ClassNo) < 3 ∧
      [Frame.alert ⟨1, 0, .low, 0, ⟨⟨0, 0⟩, .free⟩, false, 0⟩] =
        [] ++ .alert ⟨1, 0, .low, 0, ⟨⟨0, 0⟩, .free⟩, false, 0⟩ :: [] := by decide +kernel
def pendingAlert (aged : Bool) : State :=
  { journalOf 231 0 .halt State.reset with alert := ⟨true, some 215, aged, true⟩ }
theorem witness_ClearAlertChecksLatest :
    (∀ n ∈ [(214 : Seq), 215], Ready (asked .clearAlert (seqBytes n) (pendingAlert false)) .a .clearAlert
      (q .clearAlert (seqBytes n))) ∧ State.reset.alert.pending = false ∧ (pendingAlert true).alert.aged = true ∧
      ((231 : Seq) - 215).toNat ≤ ((231 : Seq) - 215).toNat ∧ ((231 : Seq) - 215).toNat < ((231 : Seq) - 214).toNat :=
  ⟨fun _ _ => ready_asked rfl rfl, rfl, rfl, by decide, by decide⟩
theorem witness_SessionOptionsAreWritten :
    (∀ x ∈ [(0 : Byte), 1, 2], ∀ y ∈ [(0 : Byte), 7, 8], ∀ z ∈ [(0 : Byte), 1, 2],
      Ready (asked .setSessionOptions [x, y, z] State.reset) .a .setSessionOptions
        (q .setSessionOptions [x, y, z])) ∧
      ((asked .setSessionOptions [0, 0, 0] State.reset).ports.get .a).session = some session1 ∧
      (∀ on flag, ((asked .setSessionOptions [0, 0, 0] State.reset).setSession .a
          (some { session1 with notices := on, noticePending := flag })).ports.a.session =
        some { session1 with notices := on, noticePending := flag }) ∧
      (∃ f ∈ [Frame.notice 1 false], f.rank = 2) ∧
      ∀ f ∈ [Frame.alert ⟨1, 0, .low, 0, ⟨⟨0, 0⟩, .free⟩, false, 0⟩], f.rank ≠ 2 :=
  ⟨fun _ _ _ _ _ _ => ready_asked rfl rfl, rfl, fun _ _ => rfl, by decide, by decide⟩
theorem witness_RaisedExceptionTakesItsSlot :
    State.reset.exceptions.Ok ∧ State.reset.exceptions.overflow = false ∧
      (eight.exceptions.slots[0].map fun e => (e.kind, e.subject)) = some (.chatterLock, .line 9) ∧
      (∀ i : SlotNo, eight.exceptions.slots[i] ≠ none) ∧ State.reset.exceptions.isEmpty = true ∧
      (raise .timeDegraded .none eight).exceptions.overflow = true := by
  refine ⟨?_, rfl, by decide +kernel, by decide +kernel, by decide +kernel, by decide +kernel⟩
  intro i j x y hx
  have hn : State.reset.exceptions.slots[i] = none := by clear hx; revert i; decide
  rw [hn] at hx
  cases hx
theorem witness_ExceptionsAreCleared :
    ∀ b ∈ [(0 : Byte), 7, 8, 254, 255], Ready (asked .clearException [b] State.reset) .a .clearException
      (q .clearException [b]) := fun _ _ => ready_asked rfl rfl
theorem witness_StateIsReported :
    Ready (asked .getLines [] State.reset) .a .getLines (q .getLines []) ∧
      Ready (asked .getTime [] State.reset) .a .getTime (q .getTime []) ∧
      Ready (asked .getSwitchStatus [] State.reset) .a .getSwitchStatus (q .getSwitchStatus []) ∧
      Ready (asked .getExceptions [] State.reset) .a .getExceptions (q .getExceptions []) ∧
      ∀ x ∈ [(0 : Byte), 1, 2], ∀ y ∈ [(0 : Byte), 1, 2, 3], ∀ z ∈ [(15 : Byte), 16, 31, 32],
        Ready (asked .readRule [x, y, z] State.reset) .a .readRule (q .readRule [x, y, z]) :=
  ⟨ready_asked rfl rfl, ready_asked rfl rfl, ready_asked rfl rfl, ready_asked rfl rfl,
    fun _ _ _ _ _ _ => ready_asked rfl rfl⟩
theorem witness_IncidentsAreListed :
    ∀ b ∈ [(0 : Byte), 7, 8], Ready (asked .listIncidents [b] State.reset) .a .listIncidents
      (q .listIncidents [b]) := fun _ _ => ready_asked rfl rfl
theorem witness_CallOpensOrJoinsIncident :
    (∀ j : SlotNo, start310.incidents.slots[j].map (·.group) ≠ some 7) ∧ start310.incidents.slots[(1 : SlotNo)] = none ∧
      (∀ j : SlotNo, j < 1 → start310.incidents.slots[j] ≠ none) ∧
      (start310.incidents.slots[(0 : SlotNo)].map fun x => (x.group, x.members)) = some (3, 1) ∧
      State.reset.rules.active.groups[(3 : GroupNo)].memberLimit = 64 ∧
      (incidentCall (call310 12 .openOrJoin 2 1000000)
        { start310 with incidents := ⟨start310.incidents.slots, 40⟩ }).2.id = some 41 := by decide +kernel
theorem witness_IncidentClosesWithItsRecord :
    start310.incidents.slots[(0 : SlotNo)] = some incident40 ∧ reached incident40.quietDeadline incident40.quietDeadline = true ∧
      reached (incident40.quietDeadline - 1) incident40.quietDeadline = false ∧ incident40.durationDeadline = none ∧
      (∀ lo ∈ [(0 : Byte), 39, 40], Ready (asked .closeIncident [0, lo] start310) .a .closeIncident
        (q .closeIncident [0, lo]) ∧ (asked .closeIncident [0, lo] start310).inAction = false) ∧
      (∃ h, (inHand9 rule9 [.chatterOn 3] true start310).classifier.inHand = some (.entry h) ∧ h.called = true) ∧
      Ready (asked .closeIncident [0, 40] (inHand9 rule9 [.chatterOn 3] true start310)) .a .closeIncident
        (q .closeIncident [0, 40]) :=
  ⟨by decide +kernel, by decide +kernel, by decide +kernel, rfl, fun _ _ => ⟨ready_asked rfl rfl, rfl⟩, ⟨_, rfl, rfl⟩,
    ready_asked rfl rfl⟩
theorem witness_SampleInstantSamplesEachLine :
    reached (at_ 100 State.reset).clock.uptime State.reset.nextSample = true ∧
      reached (at_ 99 State.reset).clock.uptime State.reset.nextSample = false ∧
      (line9 idleLine State.reset).rules.active.lines[(9 : LineNo)].mode = .capture ∧
      (line9 idleLine State.reset).lines[(9 : LineNo)].phase = .idle ∧
      (line9 Line.reset State.reset).lines[(9 : LineNo)].phase = .off ∧
      (line9 beforeLockout State.reset).lines[(9 : LineNo)].phase = .confirming 2 ⟨⟨0, 0⟩, .unset⟩ 30000 ∧
      (line9 lockedLine State.reset).lines[(9 : LineNo)].phase = .lockedOut .high := by decide +kernel
theorem witness_ConfirmedChangesAndChatter :
    locksOut rule9 3 = true ∧ locksOut rule9 2 = false ∧
      (line9 beforeLockout State.reset).lines[(9 : LineNo)].window = some 60400 ∧
      (line9 lockedLine State.reset).lines[(9 : LineNo)].release = some 290000 ∧
      reached 290000 290000 = true ∧ reached 289999 290000 = false := by decide +kernel
theorem witness_EntriesEnterFifoOrAreHeld :
    (∀ j : LineNo, State.reset.lines[j].held = none) ∧ State.reset.switch.phase ≠ .draining ∧
      ({ State.reset with fifo := List.replicate 63 (.marker .a) } : State).fifo.length < 64 ∧
      ¬(full47 64).fifo.length < 64 ∧ drained79.switch.phase = .draining ∧
      Ready (asked .takeSnapshot [] State.reset) .a .takeSnapshot (q .takeSnapshot []) :=
  ⟨by decide +kernel, by decide, by decide, by decide, rfl, ready_asked rfl rfl⟩
theorem witness_LineEntryIsTaken :
    start67.classifier.inHand = none ∧ start67.fifo = entry67 :: [] ∧
      start67.rules.active.lines[(9 : LineNo)].edges = .rising ∧
      (action49 .close).rules.active.lines[(9 : LineNo)].group = some 3 ∧ (action49 .close).classifier.inHand = none ∧
      ({ start67 with fifo := [.front (.release ⟨9, .high, .low, ⟨⟨0, 0⟩, .free⟩, 0, false⟩)]
                      classifier := ⟨0x200, 0x200, 0, none⟩ } : State).classifier.levels.getLsbD 9 ≠
        (Level.low == .high) := by decide +kernel
theorem witness_EntryInHandIsCarriedOn :
    (∀ r ∈ [RecordToBuild.lineChange, .incidentClose (closeBody .line 5000000 incident40), .chatterOn 3],
      ∀ rest ∈ [[], [RecordToBuild.chatterOn 3]], ∃ h,
        (inHand9 rule9 (r :: rest) true start67).classifier.inHand = some (.entry h) ∧ h.left = r :: rest) ∧
      read (fun s => s.classifier.inHand) [.classifierTakeEntry] (action49 .joinOnly) =
        some (inHand9 { rule9 with group := some 3, role := .joinOnly } [.chatterOn 3] true
          State.reset).classifier.inHand :=
  ⟨fun _ _ _ _ => ⟨_, rfl, rfl⟩, by decide +kernel⟩
theorem witness_SnapshotIsBuiltOrDeferred :
    ({ start67 with fifo := [.marker .b] } : State).fifo = .marker .b :: [] ∧ start67.classifier.awaiting = 0 ∧
      ({ start67 with classifier := ⟨0, 0, 0x200, some (.marker ⟨.b, 0⟩)⟩ } : State).classifier.awaiting ≠ 0 := by decide +kernel
theorem witness_PulseMovesTimeBase :
    (time59 500000 6 200 .free 2 (some 0)).clock.takesPulse .rising = true ∧
      (time59 499999 6 200 .free 2 (some 0)).clock.takesPulse .rising = false ∧
      (pulseError ⟨6, 200⟩).natAbs ≤ 200 ∧ ¬(pulseError ⟨6, 201⟩).natAbs ≤ 200 ∧
      pulseError ⟨6, 499999⟩ = 499999 ∧ pulseError ⟨6, 500000⟩ = -500000 ∧
      stepRecorded 50 50 = true ∧ stepRecorded 50 49 = false ∧ stepRecorded 0 0 = false := by decide +kernel
theorem witness_TimeTimersExpire :
    (time59 12500120 10 0 .locked 0 none).clock.missingPulse = some 12500120 ∧
      (time59 12500120 10 0 .locked 0 none).clock.quality = .locked ∧
      (time59 22500120 10 0 .holdover 0 none).clock.holdover = some ⟨12500120, 22500120⟩ ∧
      reached 22500120 22500120 = true ∧ reached 22500119 22500120 = false := by decide +kernel
theorem witness_TimeAndOptionsAreSet :
    Ready (asked .setTime (beBytes 4 (2#32).toNat ++ beBytes 3 (999999#24).toNat) State.reset) .a .setTime
        (q .setTime (beBytes 4 (2#32).toNat ++ beBytes 3 (999999#24).toNat)) ∧
      Ready (asked .setTime (beBytes 4 (2#32).toNat ++ beBytes 3 (1000000#24).toNat) State.reset) .a .setTime
        (q .setTime (beBytes 4 (2#32).toNat ++ beBytes 3 (1000000#24).toNat)) ∧
      Ready (asked .setTimeOptions [1, 0, 0, 10, 0, 10, 0, 0] State.reset) .a .setTimeOptions
        (q .setTimeOptions [1, 0, 0, 10, 0, 10, 0, 0]) ∧
      timeOptionsOf [1, 0, 0, 10, 0, 10, 0, 0] = some ⟨true, .rising, 10, 10, 0⟩ ∧
      timeOptionsOf [1, 0, 0, 9, 0, 10, 0, 0] = none ∧
      lapsing.clock.quality = .holdover ∧ 10 ≠ lapsing.clock.options.holdoverLimitS ∧
      reached lapsing.clock.uptime (0 + BitVec.ofNat 48 (10 * 1000000)) = true :=
  ⟨ready_asked rfl rfl, ready_asked rfl rfl, ready_asked rfl rfl, by decide, by decide, rfl, by decide, by decide⟩
theorem witness_StagedBankIsEdited :
    (∀ b ∈ [(31 : Byte), 32], Ready (asked .writeLineRule (b :: lineRuleBytes LineRule.default) State.reset) .a
        .writeLineRule (q .writeLineRule (b :: lineRuleBytes LineRule.default))) ∧
      lineRuleOf (lineRuleBytes LineRule.default) = some LineRule.default ∧
      (∀ b ∈ [(15 : Byte), 16], Ready (asked .writeGroupRule (b :: groupRuleBytes GroupRule.default) State.reset) .a
        .writeGroupRule (q .writeGroupRule (b :: groupRuleBytes GroupRule.default))) ∧
      groupRuleOf (groupRuleBytes GroupRule.default) = some GroupRule.default ∧
      Ready (asked .writeGlobalRule [0, 50] State.reset) .a .writeGlobalRule (q .writeGlobalRule [0, 50]) ∧
      Ready (asked .copyActiveToStaged [] State.reset) .a .copyActiveToStaged (q .copyActiveToStaged []) ∧
      (asked .writeGlobalRule [0, 50] State.reset).holdsClaim .a = true :=
  ⟨fun _ _ => ready_asked rfl rfl, by decide, fun _ _ => ready_asked rfl rfl, by decide, ready_asked rfl rfl,
    ready_asked rfl rfl, holdsClaim_asked _ _ _⟩
theorem witness_EntriesRoundTrip :
    LineRule.default.inRange ∧ GroupRule.default.inRange ∧ TimeOptions.default.inRange ∧
      (lineRuleBytes LineRule.default).length = 13 := by
  refine ⟨?_, ?_, ?_, rfl⟩ <;> simp [LineRule.inRange, GroupRule.inRange, TimeOptions.inRange, LineRule.default,
    GroupRule.default, TimeOptions.default]
theorem witness_SwitchIsRequestedAndAborted :
    Ready (asked .switchRules [] State.reset) .a .switchRules (q .switchRules []) ∧
      Ready (asked .abortSwitch [] { State.reset with switch := ⟨.validating false true, some ⟨.a, 1⟩, .none⟩ }) .a
        .abortSwitch (q .abortSwitch []) ∧
      ((asked .abortSwitch [] State.reset).ports.get .a).session = some session1 ∧ session1.number = 1 :=
  ⟨ready_asked rfl rfl, ready_asked rfl rfl, rfl, rfl⟩
theorem witness_ValidationJudgesStagedBank :
    (∀ j : LineNo, j < 20 → lineFault (staged79 999 300) false j = none) ∧
      lineFault (staged79 999 300) false 20 = some .chatterUnreachable ∧
      (∀ i : LineNo, lineFault (staged79 1000 300) false i = none) ∧
      groupFault (staged79 1000 300) 3 = some .durationBelowSettle ∧
      (∀ g : GroupNo, groupFault (staged79 1000 600000) g = none) := by decide +kernel
theorem witness_SwitchInstantInstallsStaged :
    drained79.switch.phase = .draining ∧ drained79.fifo = [] ∧ drained79.classifier.inHand = none ∧
      State.reset.switch.phase ≠ .draining := by decide +kernel
/-- A state with something of every kind: a subscribed reader with records in flight, a held claim, a request in hand,
frames waiting on both ports, an exception, an alert, LOCKED time, an open incident, an entry in the classifier's hand
and a held entry of a locked out line. -/
def busy : State :=
  { line9 { lockedLine with release := none, held := some (heldChange 9) }
      (withReader (reader .active 5 9) (time59 10 0 10 .locked 0 (some 0))) with
    pending := [.getTime .b]
    journal := ⟨run 11 8, 11, .halt⟩
    alert := ⟨true, some 7, false, true⟩
    exceptions := (raise .eventsHeld .none State.reset).exceptions
    fifo := List.replicate 64 (.marker .a)
    classifier := (inHand9 rule9 [.chatterOn 3] true State.reset).classifier
    incidents := start310.incidents
    claim := some ⟨.a, 1⟩
    ports := ⟨{ PortState.reset with
        session := some { session1 with noticePending := true }, requests := [q .ping []], inHand := true
        waiting := [.reply false ⟨0x04, 7, .ok, .none⟩, .records ((run 11 5).take 3)] },
      { PortState.reset with
        session := some { session1 with notices := true }, waiting := [.notice 1 false] }⟩ }

theorem of_all {α : Type} {P : α → Bool} {o : Option α} (h : o.all P = true) (x : α) (hx : o = some x) :
    P x = true := by
  subst hx; exact h

theorem busy_reporting :
    busy.exceptions.Ok ∧ busy.alert.nAlertLow = busy.alert.pending ∧ busy.NoticesOk := by
  have h : ∀ i : SlotNo,
      busy.exceptions.slots[i].all (fun x => x == ⟨.eventsHeld, .none, 0, 0, 1⟩ && i == 0) = true := by decide +kernel
  refine ⟨fun i j x y hx hy => ?_, rfl, ?_, ?_, ?_⟩
  · have hi := of_all (h i) x hx
    have hj := of_all (h j) y hy
    simp only [Bool.and_eq_true, beq_iff_eq] at hi hj
    exact ⟨by rw [hi.1]; decide, fun _ _ => hi.2.trans hj.2.symm⟩
  · rintro (_ | _) ses hs hn <;> cases hs
    · cases hn
    · rfl
  · exact fun _ _ _ _ => by decide +kernel
  · exact fun _ _ _ _ => by decide +kernel

theorem busy_queues_and_claim : busy.QueuesOk ∧ busy.ClaimOk := by
  refine ⟨?_, fun h hh => by cases hh; exact ⟨_, rfl, rfl⟩⟩
  constructor
  · decide +kernel
  all_goals rintro (_ | _) <;> decide +kernel

theorem busy_rules_and_time : busy.RulesOk ∧ busy.clock.Ok := by
  have hx : ∀ i : SlotNo, busy.incidents.slots[i].all (fun x => x == incident40 && i == 0) = true := by decide +kernel
  have hs : ∀ i x, busy.incidents.slots[i] = some x → x = incident40 ∧ i = (0 : SlotNo) := fun i x h => by
    simpa only [Bool.and_eq_true, beq_iff_eq] using of_all (hx i) x h
  constructor
  · refine ⟨?_, ?_, fun i x h => ?_, fun i j x y hx hy _ => (hs i x hx).2.trans (hs j y hy).2.symm⟩
    · simp only [Bank.inRange, LineRule.inRange, GroupRule.inRange]; decide +kernel
    · simp only [Bank.inRange, LineRule.inRange, GroupRule.inRange]; decide +kernel
    · rw [(hs i x h).1]; decide +kernel
  · refine ⟨?_, ?_, ?_, ?_, ?_, ?_⟩
    case _ => decide +kernel
    case _ => decide +kernel
    case _ => decide +kernel
    case _ => decide +kernel
    case _ => decide +kernel
    simp only [TimeOptions.inRange]; decide +kernel

theorem busy_readers : busy.ReadersOk := by
  refine ⟨?_, ?_, ?_⟩
  · rintro (_ | _) r h <;> cases h
    constructor <;> decide +kernel
  · rintro (_ | _) f hf h
    · exact ⟨_, rfl, by decide⟩
    · rw [List.mem_singleton.1 hf] at h
      exact absurd h (by decide)
  · rintro (_ | _) r rs h hrs <;> cases h
    have : rs = (run 11 5).take 3 := by simpa [busy] using hrs
    subst this
    exact ⟨by decide, ⟨_, rfl, by decide⟩, by decide⟩

theorem busy_lines : busy.LinesOk ∧ busy.HeldOk := by
  have h : ∀ i : LineNo, i ≠ 9 → busy.lines[i] = Line.reset := by decide +kernel
  refine ⟨⟨fun i => ?_, fun _ => by decide +kernel, fun _ h => absurd h (by decide +kernel)⟩,
    fun _ => .inl (by decide +kernel)⟩
  by_cases hi : i = 9
  · subst hi
    exact ⟨fun h => absurd h (by decide +kernel), fun h => (nomatch h), fun _ => .inr ⟨.high, rfl⟩,
      ⟨fun h => (nomatch h), fun h => (nomatch h.2)⟩⟩
  · rw [h i hi]
    exact ⟨fun _ => rfl, fun _ => ⟨rfl, rfl, rfl⟩, fun h => (nomatch h), ⟨fun h => (nomatch h),
      fun h => absurd h.1 (by rintro ⟨_, h⟩; cases h)⟩⟩

theorem busy_inHand : busy.InHandOk := by
  intro h hh
  cases hh
  exact ⟨⟨nofun, fun hm => absurd hm (by decide), fun _ hm => absurd hm (by simp)⟩, by decide +kernel⟩

/-- The witness of StepKeepsJournal, StepKeepsReporting, StepKeepsQueuesAndClaim, StepKeepsRules, StepKeepsTimeBase,
StepKeepsReaders and the first clause of StepKeepsFrontEnd. -/
theorem witness_StepKeepsInvariants :
    busy.journal.Ok ∧ (busy.exceptions.Ok ∧ busy.alert.nAlertLow = busy.alert.pending ∧ busy.NoticesOk) ∧
      (busy.QueuesOk ∧ busy.ClaimOk) ∧ (busy.RulesOk ∧ busy.clock.Ok) ∧ busy.InHandOk ∧ busy.ReadersOk ∧
      (busy.LinesOk ∧ busy.HeldOk) ∧ Journal.Ok ⟨run 11 2047, 11, .halt⟩ ∧ ∃ t, step busy = .next t :=
  ⟨journal_ok 8 (by decide), busy_reporting, busy_queues_and_claim, busy_rules_and_time, busy_inHand, busy_readers,
    busy_lines, journal_ok 2047 (by decide), _, rfl⟩
/-- A take from a full FIFO with entries held meets the second clause. -/
theorem witness_StepKeepsFrontEnd :
    busy.LinesOk ∧ State.HeldOk { full47 64 with pending := [.classifierTakeEntry] } ∧
      ∃ t, step { full47 64 with pending := [.classifierTakeEntry] } = .next t :=
  ⟨busy_lines.1, fun _ => .inl (by decide +kernel), _, rfl⟩
theorem witness_RulesChangeAtSwitchInstantAlone :
    (Instr.heldEntryAdmission ≠ .switchInstant ∧ Instr.mayReset .heldEntryAdmission = false) ∧
      drained79.switch.phase ≠ .idle ∧ ∃ t, exec .heldEntryAdmission drained79 = .next t :=
  ⟨by decide, by decide, _, rfl⟩
theorem witness_TimeMovesByItsCommandsAlone :
    Instr.mayReset (.getTime .a) = false ∧ ∃ t, exec (.getTime .a) State.reset = .next t := ⟨rfl, _, rfl⟩
theorem witness_ReportsStayUntilCleared :
    (pendingAlert false).alert.pending = true ∧ (eight.exceptions.slots[(7 : SlotNo)]).isSome = true ∧
      ∃ t, exec (.queueGapFrame .a) eight = .next t := ⟨rfl, by decide +kernel, _, rfl⟩

end Sys2Proof.Tests
end

section
/-!
PROOFS. What keeps the journal in order (R1, R5, R15 to R18): `Journal.Ok` under each change that the shared operations
make to the journal, and each operation's change.
-/
namespace Sys2Proof.Machine

/-! ### Runs of consecutive records (R1) -/

/-- Whether records form a run depends on their numbers alone. -/
theorem runFrom_of_seq_eq {next : Seq} {l l' : List Record} (h : l.map (·.seq) = l'.map (·.seq))
    (hl : runFrom next l) : runFrom next l' := by
  induction l generalizing l' with
  | nil =>
    rw [List.map_nil, eq_comm, List.map_eq_nil_iff] at h
    subst h
    exact trivial
  | cons x xs ih =>
    cases l' with
    | nil => simp at h
    | cons y ys =>
      obtain ⟨hxy, ht⟩ := List.cons.inj h
      have hlen : xs.length = ys.length := by simpa using congrArg List.length ht
      obtain ⟨hx, hxs⟩ := hl
      exact ⟨by rw [← hlen]; exact hxy.symm.trans hx, ih ht hxs⟩

/-- A record with the next number prolongs a run (R5). -/
theorem runFrom_concat {next : Seq} {r : Record} (hr : r.seq = next) {l : List Record} (hl : runFrom next l) :
    runFrom (next + 1) (l ++ [r]) := by
  induction l with
  | nil => exact ⟨by rw [hr]; simp, trivial⟩
  | cons x xs ih =>
    obtain ⟨hx, hxs⟩ := hl
    refine ⟨?_, ih hxs⟩
    have hlen : (xs.append [r]).length = xs.length + 1 := List.length_append
    rw [hx, hlen]
    bv_omega

/-- The newest records of a run are a run. -/
theorem runFrom_drop {next : Seq} : ∀ (k : Nat) {l : List Record}, runFrom next l → runFrom next (l.drop k)
  | 0, _, h => h
  | _ + 1, [], h => h
  | k + 1, _ :: _, h => runFrom_drop k h.2

/-! ### The newest record -/

/-- The numbers stay when a change of the newest record keeps its number. -/
theorem map_seq_mapLast {f : Record → Record} (hf : ∀ r, (f r).seq = r.seq) (l : List Record) :
    (mapLast f l).map (·.seq) = l.map (·.seq) := by
  rcases List.eq_nil_or_concat l with rfl | ⟨pre, m, rfl⟩
  · rfl
  · simp [List.concat_eq_append, mapLast_append, hf]

/-- A change of the newest record leaves those before it. -/
theorem dropLast_mapLast (f : Record → Record) (l : List Record) : (mapLast f l).dropLast = l.dropLast := by
  rcases List.eq_nil_or_concat l with rfl | ⟨pre, m, rfl⟩
  · rfl
  · simp [List.concat_eq_append, mapLast_append]

/-- The newest record after a change of it. -/
theorem getLast?_mapLast (f : Record → Record) (l : List Record) : (mapLast f l).getLast? = l.getLast?.map f := by
  rcases List.eq_nil_or_concat l with rfl | ⟨pre, m, rfl⟩
  · rfl
  · simp [List.concat_eq_append, mapLast_append]

/-- A change of the newest record leaves each record before it. -/
theorem getElem?_mapLast {f : Record → Record} {l : List Record} {i : Nat} (hi : i + 1 < l.length) :
    (mapLast f l)[i]? = l[i]? := by
  rcases List.eq_nil_or_concat l with rfl | ⟨pre, m, rfl⟩
  · rfl
  · simp only [List.concat_eq_append, List.length_append, List.length_singleton] at hi
    rw [List.concat_eq_append, mapLast_append, List.getElem?_append_left (by omega),
      List.getElem?_append_left (by omega)]

/-- The body of an OVERFLOW marker. -/
def RecordBody.isMarker : RecordBody → Bool
  | .overflow _ => true
  | _ => false

/-- An open marker is a marker with its OPEN flag set (R16). -/
theorem Record.isOpenMarker_eq (r : Record) : r.isOpenMarker = (r.body.isMarker && r.flags.markerOpen) := by
  unfold Record.isOpenMarker
  cases r.body <;> rfl

/-- Closing a marker keeps its number (R18). -/
@[simp] theorem Record.closed_seq (r : Record) : r.closed.seq = r.seq := by
  unfold Record.closed
  split <;> rfl

/-- A closed marker is no open marker (R18). -/
@[simp] theorem Record.closed_isOpenMarker (r : Record) : r.closed.isOpenMarker = false := by
  by_cases h : r.isOpenMarker = true
  · rw [Record.closed, if_pos h]
    cases r.body <;> simp [Record.isOpenMarker]
  · simp [Record.closed, h]

/-- Counting a refused record keeps the marker's number (R17). -/
@[simp] theorem Record.countRefused_seq (t : Stamp) (a : Bool) (c : Option ClassNo) (r : Record) :
    (r.countRefused t a c).seq = r.seq := by
  unfold Record.countRefused
  repeat' split
  all_goals rfl

/-- An open marker stays open when a refused record is counted into it (R17). -/
@[simp] theorem Record.countRefused_isOpenMarker (t : Stamp) (a : Bool) (c : Option ClassNo) (r : Record) :
    (r.countRefused t a c).isOpenMarker = r.isOpenMarker := by
  unfold Record.countRefused
  split
  · split
    · next h hb => simp_all [Record.isOpenMarker]
    · rfl
  · rfl

/-! ### The changes that keep the journal in order -/

/-- The marker state, by the newest record (R16). -/
theorem Journal.markerOpen_eq (j : Journal) :
    j.markerOpen = (j.held.getLast?.map Record.isOpenMarker).getD false := by
  unfold Journal.markerOpen
  cases j.held.getLast? <;> rfl

/-- With the marker state not OPEN no held record is an open marker. -/
theorem Journal.Ok.closed {j : Journal} (h : j.Ok) (hm : j.markerOpen = false) :
    ∀ r ∈ j.held, r.isOpenMarker = false := by
  rcases j with ⟨held, next, mode⟩
  rcases List.eq_nil_or_concat held with rfl | ⟨pre, m, rfl⟩
  · simp
  · have hpre := h.marker
    simp only [List.concat_eq_append, List.dropLast_concat] at hpre
    simp only [List.concat_eq_append, Journal.markerOpen_eq, List.getLast?_concat] at hm
    intro r hr
    rcases List.mem_append.1 (List.concat_eq_append ▸ hr) with hr | hr
    · exact hpre r hr
    · rw [List.mem_singleton.1 hr]
      exact hm

/-- A journal with no open marker, not full in HALT mode, is in order. -/
theorem Journal.Ok.of_closed {j : Journal} (hcap : j.held.length ≤ 2048) (hrun : runFrom j.next j.held)
    (hclosed : ∀ r ∈ j.held, r.isOpenMarker = false) (hroom : j.mode = .halt → j.held.length < 2048) : j.Ok where
  capacity := hcap
  run := hrun
  marker r hr := hclosed r (List.dropLast_subset _ hr)
  open_ := by
    have hm : j.markerOpen = false := by
      rw [Journal.markerOpen_eq]
      cases hl : j.held.getLast? with
      | none => rfl
      | some r => exact hclosed r (List.mem_of_getLast? hl)
    simp only [hm, Bool.false_eq_true, false_iff]
    rintro ⟨hh, hfull⟩
    exact absurd hfull (Nat.ne_of_lt (hroom hh))

/-- A journal with room takes a record with the next number; it is an open marker exactly when it fills the journal in
HALT mode (R5, R16). -/
theorem Journal.Ok.concat {j : Journal} (h : j.Ok) {r : Record} (hseq : r.seq = j.next) (hroom : j.held.length < 2048)
    (hr : r.isOpenMarker = true ↔ j.mode = .halt ∧ j.held.length + 1 = 2048) :
    Journal.Ok ⟨j.held ++ [r], j.next + 1, j.mode⟩ where
  capacity := by simpa using hroom
  run := runFrom_concat hseq h.run
  marker := by
    simp only [List.dropLast_concat]
    refine h.closed ?_
    cases hm : j.markerOpen with
    | false => rfl
    | true => exact absurd (h.open_.1 hm).2 (Nat.ne_of_lt hroom)
  open_ := by
    rw [Journal.markerOpen_eq, List.getLast?_concat, List.length_append]
    exact hr

/-- A change of the newest record that keeps its number and its being an open marker or none. -/
theorem Journal.Ok.mapLast {j : Journal} (h : j.Ok) {f : Record → Record} (hseq : ∀ r, (f r).seq = r.seq)
    (hopen : ∀ r, (f r).isOpenMarker = r.isOpenMarker) : Journal.Ok { j with held := Machine.mapLast f j.held } where
  capacity := by simpa using h.capacity
  run := runFrom_of_seq_eq (map_seq_mapLast hseq _).symm h.run
  marker := by simpa only [dropLast_mapLast] using h.marker
  open_ := by
    have hm : Journal.markerOpen { j with held := Machine.mapLast f j.held } = j.markerOpen := by
      simp only [Journal.markerOpen_eq, getLast?_mapLast, Option.map_map]
      congr 2
      exact funext hopen
    rw [hm]
    simpa using h.open_

/-- Once its newest record is closed, no record of the journal is an open marker (R18). -/
theorem Journal.Ok.closed_closeMarker {j : Journal} (h : ∀ r ∈ j.held.dropLast, r.isOpenMarker = false) :
    ∀ r ∈ j.closeMarker.held, r.isOpenMarker = false := by
  rcases j with ⟨held, next, mode⟩
  rcases List.eq_nil_or_concat held with rfl | ⟨pre, m, rfl⟩
  · simp [Journal.closeMarker, Machine.mapLast]
  · simp only [List.concat_eq_append, List.dropLast_concat] at h
    simp only [Journal.closeMarker, List.concat_eq_append, mapLast_append]
    intro r hr
    rcases List.mem_append.1 hr with hr | hr
    · exact h r hr
    · rw [List.mem_singleton.1 hr]
      exact Record.closed_isOpenMarker m

/-- Oldest records leave and the marker closes (R18, R20). -/
theorem Journal.Ok.drop_closeMarker {j : Journal} (h : j.Ok) {k : Nat} (hk : (j.held.drop k).length < j.held.length) :
    (Journal.closeMarker { j with held := j.held.drop k }).Ok := by
  have hlen : (Journal.closeMarker { j with held := j.held.drop k }).held.length < 2048 := by
    rw [Journal.closeMarker, length_mapLast]
    exact Nat.lt_of_lt_of_le hk h.capacity
  refine .of_closed hlen.le ?_ (Journal.Ok.closed_closeMarker fun r hr => h.marker r ?_) fun _ => hlen
  · exact runFrom_of_seq_eq (map_seq_mapLast Record.closed_seq _).symm (runFrom_drop k h.run)
  · rw [List.dropLast_drop_eq_drop_dropLast] at hr
    exact List.mem_of_mem_drop hr

/-- An empty journal is in order. -/
theorem Journal.Ok.empty (next : Seq) (mode : JournalMode) : Journal.Ok ⟨[], next, mode⟩ :=
  .of_closed (Nat.zero_le _) trivial (by simp) fun _ => Nat.zero_lt_succ _

/-! ### What each shared operation makes of the journal -/

@[simp] theorem acceptRecord_journal (b : RecordBody) (t : Stamp) (f : RecordFlags) (s : State) :
    (acceptRecord b t f s).journal = ⟨s.journal.held ++ [⟨s.journal.next, t, s.rules.generation, f, b⟩],
      s.journal.next + 1, s.journal.mode⟩ := by
  simp [acceptRecord]

@[simp] theorem acceptOffer_journal (o : Offer) (s : State) : (acceptOffer o s).journal =
    ⟨s.journal.held ++ [⟨s.journal.next, o.stampIn s, s.rules.generation, o.flags, o.body⟩],
      s.journal.next + 1, s.journal.mode⟩ := by
  simp [acceptOffer]

@[simp] theorem overwriteOldest_journal (s : State) :
    (overwriteOldest s).journal = { s.journal with held := s.journal.held.tail } := by
  unfold overwriteOldest
  split
  · next h => rw [h, List.tail_nil, ← h]
  · next h => simp [h]

/-- A record that no open marker is accepted where there is room; in HALT mode the last place is the marker's (R15). -/
theorem Journal.Ok.acceptOffer {o : Offer} {s : State} (h : s.journal.Ok) (ho : o.body.isMarker = false)
    (hroom : s.journal.held.length < 2048) (hhalt : s.journal.mode = .halt → s.journal.held.length < 2047) :
    (acceptOffer o s).journal.Ok := by
  rw [acceptOffer_journal]
  refine h.concat rfl hroom (iff_of_false ?_ ?_)
  · simp [Record.isOpenMarker_eq, ho]
  · rintro ⟨hh, hlen⟩
    have := hhalt hh
    omega

/-- The marker is raised in the last place of a journal in HALT mode (R16). -/
theorem Journal.Ok.raiseMarker {o : Offer} {s : State} (h : s.journal.Ok) (hmode : s.journal.mode = .halt)
    (hlen : s.journal.held.length = 2047) : (raiseMarker o s).journal.Ok := by
  simp only [Machine.raiseMarker, handAlert_frame, raise_frame, acceptRecord_journal]
  exact h.concat rfl (by omega) (by simp [Record.isOpenMarker, hmode, hlen])

/-- A refused record is counted into the marker (R17). -/
theorem Journal.Ok.countRefused {o : Offer} {s : State} (h : s.journal.Ok) : (countRefused o s).journal.Ok := by
  simp only [Machine.countRefused, handAlert_frame]
  exact h.mapLast (Record.countRefused_seq _ _ _) (Record.countRefused_isOpenMarker _ _ _)

/-- The oldest record of a journal in WRAP mode leaves (R19). -/
theorem Journal.Ok.overwriteOldest {s : State} (h : s.journal.Ok) (hmode : s.journal.mode = .wrap) :
    (overwriteOldest s).journal.Ok := by
  rw [overwriteOldest_journal]
  have hopen : s.journal.markerOpen = false := by
    cases hm : s.journal.markerOpen with
    | false => rfl
    | true => exact nomatch hmode.symm.trans (h.open_.1 hm).1
  refine .of_closed ?_ ?_ (fun r hr => h.closed hopen r (List.mem_of_mem_tail hr)) fun hh => ?_
  · rw [List.length_tail]
    exact (Nat.sub_le _ _).trans h.capacity
  · rw [← List.drop_one]
    exact runFrom_drop 1 h.run
  · exact nomatch hmode.symm.trans hh

/-- An append keeps the journal in order; no block offers a marker (R15 to R19). -/
theorem Journal.Ok.append {o : Offer} {s : State} (h : s.journal.Ok) (ho : o.body.isMarker = false) :
    (append o s).1.journal.Ok := by
  have hcap : s.journal.held.length ≤ 2048 := h.capacity
  unfold Machine.append
  split
  · next hmode =>
    dsimp only
    split
    · next hlen => exact h.acceptOffer ho hlen fun hh => nomatch hmode.symm.trans hh
    · refine (h.overwriteOldest hmode).acceptOffer ho ?_ fun hh => ?_
      · simp only [overwriteOldest_journal, List.length_tail]
        omega
      · rw [overwriteOldest_journal] at hh
        exact nomatch hmode.symm.trans hh
  · next hmode =>
    split
    · next hlen => exact h.acceptOffer ho (Nat.lt_trans hlen (by decide)) fun _ => hlen
    · split
      · next hlen => exact h.raiseMarker hmode hlen.1
      · exact h.countRefused

/-- The part of the journal that release keeps: its newest records (R20). -/
theorem Journal.Ok.above_eq {j : Journal} (h : j.Ok) (point : Seq) :
    j.above point = j.held.drop (j.held.length + 1 - distance j.next point) :=
  dropWhile_atOrAbove_of_run j.next point j.held h.run h.capacity

/-- Release keeps the journal in order: a marker that is no longer the newest of 2,048 closes (R18, R20). -/
theorem Journal.Ok.evaluateRelease {s : State} (h : s.journal.Ok) : (evaluateRelease s).journal.Ok := by
  unfold Machine.evaluateRelease
  split
  · exact h
  · next point _ =>
    split
    · next hlt =>
      rw [h.above_eq] at hlt ⊢
      exact h.drop_closeMarker hlt
    · exact h

/-- A cleared journal holds the CLEARED record alone (R21). -/
theorem Journal.Ok.clearJournal (s : State) : (clearJournal s).journal.Ok := by
  simp only [Machine.clearJournal, acceptRecord_journal, withdrawRecords_frame]
  exact (Journal.Ok.empty _ _).concat rfl (by simp) (by simp [Record.isOpenMarker])

/-- SET_JOURNAL_MODE keeps the journal in order: HALT to WRAP closes the marker, WRAP to HALT asks for room (R22). -/
theorem Journal.Ok.setMode {s : State} (h : s.journal.Ok) (mode : JournalMode) : (setMode mode s).1.journal.Ok := by
  unfold Machine.setMode
  split
  · exact h
  · exact h
  · refine .of_closed ?_ ?_ (Journal.Ok.closed_closeMarker h.marker) nofun
    · simpa [Journal.closeMarker] using h.capacity
    · exact runFrom_of_seq_eq (map_seq_mapLast Record.closed_seq _).symm h.run
  · next hmode =>
    split
    · next hlen =>
      refine .of_closed h.capacity h.run (h.closed ?_) fun _ => hlen
      cases hm : s.journal.markerOpen with
      | false => rfl
      | true => exact nomatch hmode.symm.trans (h.open_.1 hm).1
    · exact h

/-- After a reset the journal holds RESTARTED alone (R25). -/
theorem Journal.Ok.reset (cause : ResetCause) (stamp : Stamp) : (Journal.reset cause stamp).Ok :=
  (Journal.Ok.empty 1 .halt).concat (r := Record.restarted cause stamp) rfl (by simp)
    (by simp [Record.isOpenMarker, Record.restarted])

end Sys2Proof.Machine
end

section
/-!
PROOFS. What keeps a reader within its bounds (R26 to R36): the reader of one port with the frames that wait for it,
under each change that the shared operations make.
-/
namespace Sys2Proof.Machine

/-! ### One reader and its waiting frames -/

/-- What the readers' invariant says of one port: its reader against the journal, and the frames that wait for it. -/
structure ReaderOk (j : Journal) (reader : Option Subscription) (frames : List Frame) : Prop where
  bounds : ∀ r, reader = some r → r.Ok j
  awake : ∀ f ∈ frames, f.isRecords = true ∨ f.isGap = true → ∃ r, reader = some r ∧ r.state ≠ .dormant
  waiting : ∀ r rs, reader = some r → .records rs ∈ frames → rs.length ≤ 4 ∧
    (∃ x, rs.head? = some x ∧ r.send = x.seq + BitVec.ofNat 32 rs.length) ∧ (r.retry ≠ 0 → rs.length ≤ r.inFlight)

/-- The readers are in order when each port's reader is. -/
theorem State.readersOk_iff (s : State) :
    s.ReadersOk ↔ ∀ p, ReaderOk s.journal (s.readers.get p) (s.ports.get p).waiting where
  mp h p := ⟨h.bounds p, h.awake p, h.waiting p⟩
  mpr h := ⟨fun p => (h p).bounds, fun p => (h p).awake, fun p => (h p).waiting⟩

/-- A RECORDS or a GAP frame waits. -/
def Delivers (frames : List Frame) : Prop := ∃ f ∈ frames, f.isRecords = true ∨ f.isGap = true

/-- Every RECORDS and GAP frame among `frames'` is among `frames`. -/
def NoNewDelivery (frames frames' : List Frame) : Prop :=
  ∀ f ∈ frames', f.isRecords = true ∨ f.isGap = true → f ∈ frames

/-- A reader stays in order when frames of other kinds come and frames of any kind go. -/
theorem ReaderOk.of_noNewDelivery {j : Journal} {reader : Option Subscription} {frames frames' : List Frame}
    (h : ReaderOk j reader frames) (hf : NoNewDelivery frames frames') : ReaderOk j reader frames' where
  bounds := h.bounds
  awake f hm hd := h.awake f (hf f hm hd) hd
  waiting r rs hr hm := h.waiting r rs hr (hf _ hm (.inl rfl))

/-- No reader, and no frame that waits for one. -/
theorem ReaderOk.none {j : Journal} {frames : List Frame} (h : ¬ Delivers frames) : ReaderOk j none frames where
  bounds := nofun
  awake f hm hd := absurd ⟨f, hm, hd⟩ h
  waiting := nofun

/-- A reader in its bounds with no frame waiting for it. -/
theorem ReaderOk.idle {j : Journal} {r : Subscription} {frames : List Frame} (hr : r.Ok j) (h : ¬ Delivers frames) :
    ReaderOk j (some r) frames where
  bounds := by rintro _ ⟨⟩; exact hr
  awake f hm hd := absurd ⟨f, hm, hd⟩ h
  waiting r rs _ hm := absurd ⟨_, hm, .inl rfl⟩ h

/-- No frame waits for a DORMANT reader (R36). -/
theorem ReaderOk.not_delivers {j : Journal} {r : Subscription} {frames : List Frame} (h : ReaderOk j (some r) frames)
    (hs : r.state = .dormant) : ¬ Delivers frames := by
  rintro ⟨f, hm, hd⟩
  obtain ⟨_, ⟨⟩, hne⟩ := h.awake f hm hd
  exact hne hs

/-- Another journal against which a reader in its bounds stays so serves each port's reader. -/
theorem ReaderOk.of_journal {j j' : Journal} {reader : Option Subscription} {frames : List Frame}
    (h : ReaderOk j reader frames) (hj : ∀ r, reader = some r → r.Ok j → r.Ok j') : ReaderOk j' reader frames where
  bounds r hr := hj r hr (h.bounds r hr)
  awake := h.awake
  waiting := h.waiting

/-- Its waiting RECORDS frame withdrawn, a reader changes within its bounds, DORMANT only if it was. -/
theorem ReaderOk.withoutRecords {j j' : Journal} {r x : Subscription} {frames : List Frame}
    (h : ReaderOk j (some r) frames) (hx : x.Ok j') (hs : x.state = .dormant → r.state = .dormant) :
    ReaderOk j' (some x) (frames.filter fun f => !f.isRecords) where
  bounds := by rintro _ ⟨⟩; exact hx
  awake f hm hd := by
    obtain ⟨_, ⟨⟩, hne⟩ := h.awake f (List.mem_of_mem_filter hm) hd
    exact ⟨x, rfl, fun hd => hne (hs hd)⟩
  waiting _ _ _ hm := nomatch (List.mem_filter.1 hm).2

/-! ### A reader against another journal -/

/-- The bounds of a reader depend on the next number and the count alone. -/
theorem Subscription.Ok.of_journal {j j' : Journal} {r : Subscription} (h : r.Ok j) (hn : j'.next = j.next)
    (hl : j'.held.length = j.held.length) : r.Ok j' :=
  { h with
    below := by rw [hn]; exact h.below
    send := by rw [hn, hl]; exact h.send
    ack := by rw [hn, hl]; exact h.ack
    band := by rw [hn]; exact h.band }

/-- One more number leaves a point one further below. -/
theorem distance_next {next n : Seq} (h : distance next n ≤ 2064) : distance (next + 1) n = distance next n + 1 := by
  simp only [distance] at *
  bv_omega

/-- The number after a point lies one less below. -/
theorem distance_succ {next n : Seq} (h : 1 ≤ distance next n) : distance next (n + 1) = distance next n - 1 := by
  simp only [distance] at *
  bv_omega

/-- The number before a point lies one further below. -/
theorem distance_pred {next n : Seq} (h : distance next n ≤ 2064) : distance next (n - 1) = distance next n + 1 := by
  simp only [distance] at *
  bv_omega

/-- The records in flight, by the distances of the two points (R26). -/
theorem Subscription.inFlight_eq {r : Subscription} {next : Seq} (h : distance next r.send < distance next r.ack) :
    r.inFlight = distance next r.ack - distance next r.send - 1 := by
  simp only [distance, Subscription.inFlight] at *
  bv_omega

/-- An append moves every point of a reader one further below, and the journal holds one record more (R5). -/
theorem Subscription.Ok.append {j j' : Journal} {r : Subscription} (h : r.Ok j) (hn : j'.next = j.next + 1)
    (hl : j'.held.length = j.held.length + 1) (hroom : j.held.length < 2048) : r.Ok j' := by
  have hsend : distance j'.next r.send = distance j.next r.send + 1 := by
    have := h.send
    rw [hn, distance_next (by omega)]
  have hack : distance j'.next r.ack = distance j.next r.ack + 1 := by
    rw [hn, distance_next h.band]
  have h1 := h.below
  have h2 := h.send
  have h3 := h.ack
  exact { h with
    below := by omega
    send := by omega
    ack := by omega
    band := show _ ≤ 2064 by omega }

/-- Records leave the journal below a reader's ack point (R19, R20). -/
theorem Subscription.Ok.drop {j j' : Journal} {r : Subscription} (h : r.Ok j) (hn : j'.next = j.next)
    (hl : distance j.next r.ack ≤ j'.held.length + 1) : r.Ok j' := by
  have h1 := h.below
  rw [← hn] at h1 hl
  exact { h with
    below := h1
    send := by omega
    ack := hl
    band := by rw [hn]; exact h.band }

/-! ### A reader with nothing in flight -/

/-- A reader whose send point stands just above its ack point, its timer stopped. -/
theorem Subscription.Ok.settled {j : Journal} {r : Subscription} (hwindow : 1 ≤ r.window ∧ r.window ≤ Config.maxWindow)
    (htimeout : 20 ≤ r.timeoutMs ∧ r.timeoutMs ≤ 5000) (htimer : r.timer = none)
    (hretry : r.retry ≤ Config.retryLimit ∧ (r.retry = Config.retryLimit ↔ r.state = .stalled))
    (hdormant : r.state = .dormant → r.retain = true) (hsend : r.send = r.ack + 1)
    (hpos : 1 ≤ distance j.next r.ack) (hack : distance j.next r.ack ≤ j.held.length + 1)
    (hcap : j.held.length ≤ 2048) : r.Ok j := by
  have hd : distance j.next r.send = distance j.next r.ack - 1 := by rw [hsend, distance_succ hpos]
  have hf : r.inFlight = 0 := by rw [Subscription.inFlight_eq (next := j.next) (by omega)]; omega
  exact {
    window := hwindow
    timeout := htimeout
    timer := by simp [htimer, hf]
    retry := hretry
    dormant := hdormant
    flight := by omega
    below := by omega
    send := by omega
    ack := hack
    band := show _ ≤ 2064 by omega }

end Sys2Proof.Machine
end

section
/-!
PROOFS. The operations that neither the journal nor a reader takes part in, and the changes of one port's reader.
-/
namespace Sys2Proof.Machine

/-! ### Changes that no reader sees -/

/-- From `s` to `t` the journal and the readers stay, and no RECORDS or GAP frame is queued. -/
structure Quiet (s t : State) : Prop where
  journal : t.journal = s.journal
  readers : t.readers = s.readers
  frames : ∀ p, NoNewDelivery (s.ports.get p).waiting (t.ports.get p).waiting

theorem NoNewDelivery.refl (frames : List Frame) : NoNewDelivery frames frames := fun _ h _ => h

theorem NoNewDelivery.trans {l l' l'' : List Frame} (h : NoNewDelivery l l') (h' : NoNewDelivery l' l'') :
    NoNewDelivery l l'' := fun f hm hd => h f (h' f hm hd) hd

theorem NoNewDelivery.of_subset {l l' : List Frame} (h : l' ⊆ l) : NoNewDelivery l l' := fun _ hm _ => h hm

/-- A frame of another kind joins the queue. -/
theorem NoNewDelivery.concat {l l' : List Frame} {f : Frame} (h : NoNewDelivery l l') (hr : f.isRecords = false)
    (hg : f.isGap = false) : NoNewDelivery l (l' ++ [f]) := by
  intro x hm hd
  rcases List.mem_append.1 hm with hm | hm
  · exact h x hm hd
  · rw [List.mem_singleton.1 hm, hr, hg] at hd
    simp at hd

theorem Quiet.refl (s : State) : Quiet s s := ⟨rfl, rfl, fun _ => .refl _⟩

theorem Quiet.trans {s t u : State} (h : Quiet s t) (h' : Quiet t u) : Quiet s u :=
  ⟨h'.journal.trans h.journal, h'.readers.trans h.readers, fun p => (h.frames p).trans (h'.frames p)⟩

/-- What changes no journal, no reader and no port is quiet. -/
theorem Quiet.of_ports {s t : State} (hj : t.journal = s.journal) (hr : t.readers = s.readers)
    (hp : t.ports = s.ports) : Quiet s t :=
  ⟨hj, hr, fun p => by rw [hp]; exact .refl _⟩

/-- A change of one port that queues no RECORDS or GAP frame is quiet. -/
theorem Quiet.setPort {s : State} {p : Port} {x : PortState} (h : NoNewDelivery (s.ports.get p).waiting x.waiting) :
    Quiet s (s.setPort p x) := by
  refine ⟨rfl, rfl, fun q => ?_⟩
  rw [State.setPort_ports, PerPort.get_set]
  split
  · next hq => exact hq ▸ h
  · exact .refl _

theorem Quiet.setSession (s : State) (p : Port) (x : Option Session) : Quiet s (s.setSession p x) :=
  .setPort (.refl _)

theorem Quiet.queueFrame (s : State) (p : Port) {f : Frame} (hr : f.isRecords = false) (hg : f.isGap = false) :
    Quiet s (s.queueFrame p f) :=
  .setPort ((NoNewDelivery.refl _).concat hr hg)

theorem Quiet.withdraw (s : State) (p : Port) (f : Frame → Bool) : Quiet s (s.withdraw p f) :=
  .setPort (.of_subset (List.filter_subset_self _))

theorem Quiet.putInHand (s : State) (p : Port) : Quiet s (s.putInHand p) := .setPort (.refl _)

theorem Quiet.answer (s : State) (p : Port) (r : Reply) : Quiet s (s.answer p r) :=
  (Quiet.queueFrame s p rfl rfl).trans (.setPort (.refl _))

/-- A fold of quiet steps is quiet. -/
theorem Quiet.foldl {α : Type} {f : State → α → State} (h : ∀ s a, Quiet s (f s a)) (l : List α) (s : State) :
    Quiet s (l.foldl f s) := by
  induction l generalizing s with
  | nil => exact .refl _
  | cons a l ih => exact (h s a).trans (ih _)

/-! ### Exceptions and alerts -/

theorem Quiet.queueNotice (p : Port) (s : State) : Quiet s (queueNotice p s) := by
  unfold Machine.queueNotice
  split
  · exact .refl _
  · exact .queueFrame s p rfl rfl

theorem Quiet.offerNotice (p : Port) (s : State) : Quiet s (offerNotice p s) := by
  unfold Machine.offerNotice
  split
  · exact .refl _
  · split
    · exact .queueNotice p s
    · exact .setSession s p _

theorem Quiet.raise (k : ExceptionKind) (x : ExceptionSubject) (s : State) : Quiet s (raise k x s) := by
  have htaken : Quiet s { s with exceptions := s.exceptions.take s.clock.uptime k x } :=
    .of_ports rfl rfl rfl
  unfold Machine.raise
  dsimp only
  split
  · exact htaken.trans ((Quiet.offerNotice .a _).trans (.offerNotice .b _))
  · exact htaken

theorem Quiet.forgetNotices (p : Port) (s : State) : Quiet s (forgetNotices p s) := by
  unfold Machine.forgetNotices
  dsimp only
  split
  · exact .withdraw s p _
  · exact (Quiet.withdraw s p _).trans (.setSession _ p _)

/-- What is left without one frame was there before. -/
theorem eraseFirst_subset {α : Type} (f : α → Bool) (l : List α) : eraseFirst f l ⊆ l := by
  induction l with
  | nil => exact List.Subset.refl _
  | cons x xs ih =>
    unfold eraseFirst
    split
    · exact List.subset_cons_self x xs
    · exact List.cons_subset_cons x ih

theorem Quiet.queueAlert (p : Port) (ses : Session) (a : AlertInfo) (s : State) : Quiet s (queueAlert p ses a s) := by
  refine .setPort (NoNewDelivery.concat (.of_subset ?_) rfl rfl)
  split
  · exact eraseFirst_subset _ _
  · exact List.Subset.refl _

theorem Quiet.offerAlert (p : Port) (a : AlertInfo) (s : State) : Quiet s (offerAlert p a s) := by
  unfold Machine.offerAlert
  split
  · exact .refl _
  · split
    · exact .queueAlert p _ a s
    · exact .refl _

theorem Quiet.takeAlert (a : AlertInfo) (s : State) : Quiet s (takeAlert a s) :=
  have htaken : Quiet s { s with alert := ⟨true, some a.seq, false, true⟩ } := .of_ports rfl rfl rfl
  htaken.trans ((Quiet.offerAlert .a a _).trans (.offerAlert .b a _))

theorem Quiet.handAlert (a : Option AlertInfo) (s : State) : Quiet s (handAlert a s) := by
  cases a with
  | none => exact .refl _
  | some a => exact .takeAlert a s

/-! ### The reader of one port -/

/-- From `s` to `t` the readers of the other ports stay, and no RECORDS or GAP frame is queued for them. -/
def OthersKept (p : Port) (s t : State) : Prop :=
  ∀ q, q ≠ p → t.readers.get q = s.readers.get q ∧ NoNewDelivery (s.ports.get q).waiting (t.ports.get q).waiting

theorem OthersKept.trans {p : Port} {s t u : State} (h : OthersKept p s t) (h' : OthersKept p t u) :
    OthersKept p s u := fun q hq =>
  ⟨(h' q hq).1.trans (h q hq).1, (h q hq).2.trans (h' q hq).2⟩

theorem Quiet.othersKept {s t : State} (h : Quiet s t) (p : Port) : OthersKept p s t :=
  fun q _ => ⟨by rw [h.readers], h.frames q⟩

theorem OthersKept.setReader (p : Port) (s : State) (r : Option Subscription) : OthersKept p s (s.setReader p r) :=
  fun _ hq => ⟨by rw [State.setReader_readers, PerPort.get_set_ne _ hq], .refl _⟩

theorem OthersKept.setPort (p : Port) (s : State) (x : PortState) : OthersKept p s (s.setPort p x) :=
  fun _ hq => ⟨rfl, by rw [State.setPort_ports, PerPort.get_set_ne _ hq]; exact .refl _⟩

theorem OthersKept.withdrawRecords (p : Port) (s : State) : OthersKept p s (withdrawRecords p s) := by
  unfold Machine.withdrawRecords
  split
  · exact ((Quiet.withdraw s p _).othersKept p).trans (.setReader p _ _)
  · exact (Quiet.withdraw s p _).othersKept p

/-- The readers are in order after a change of one port's reader that leaves it in order and the others alone. -/
theorem State.ReadersOk.of_port {p : Port} {s t : State} (h : s.ReadersOk)
    (hj : ∀ r : Subscription, r.Ok s.journal → r.Ok t.journal) (ho : OthersKept p s t)
    (hp : ReaderOk t.journal (t.readers.get p) (t.ports.get p).waiting) : t.ReadersOk := by
  rw [State.readersOk_iff] at h ⊢
  intro q
  by_cases hq : q = p
  · exact hq ▸ hp
  · rw [(ho q hq).1]
    exact ((h q).of_noNewDelivery (ho q hq).2).of_journal fun r _ => hj r

/-- A quiet change keeps the readers in order. -/
theorem State.ReadersOk.of_quiet {s t : State} (h : s.ReadersOk) (hq : Quiet s t) : t.ReadersOk := by
  rw [State.readersOk_iff] at h ⊢
  intro p
  rw [hq.journal, hq.readers]
  exact (h p).of_noNewDelivery (hq.frames p)

/-! ### The withdrawal of a waiting RECORDS frame (R30) -/

/-- The withdrawal touches the RECORDS frames of its port's queue alone. -/
theorem waiting_withdrawRecords (p : Port) (s : State) : ((withdrawRecords p s).ports.get p).waiting =
    (s.ports.get p).waiting.filter fun f => !f.isRecords := by
  unfold withdrawRecords
  split <;> simp

/-- With no RECORDS frame waiting the withdrawal changes nothing (R30). -/
theorem withdrawRecords_eq_self {p : Port} {s : State} (h : ∀ rs, Frame.records rs ∉ (s.ports.get p).waiting) :
    withdrawRecords p s = s := by
  unfold withdrawRecords
  rw [waitingFirst_eq_none h]
  refine withdraw_eq_self fun f hm => ?_
  cases f with
  | records rs => exact absurd hm (h rs)
  | _ => rfl

/-- A withdrawal leaves a port without a reader as it is. -/
theorem reader_withdrawRecords_none {p : Port} {s : State} (h : s.readers.get p = none) :
    (withdrawRecords p s).readers.get p = none := by
  simp only [withdrawRecords, h]
  split <;> simp_all

/-- The first waiting record is that of a waiting RECORDS frame. -/
theorem exists_of_waitingFirst {l : List Frame} {n : Seq} (h : waitingFirst l = some n) :
    ∃ rs x, .records rs ∈ l ∧ rs.head? = some x ∧ x.seq = n := by
  obtain ⟨f, hm, hf⟩ := List.exists_of_findSome?_eq_some h
  cases f with
  | records rs =>
    obtain ⟨x, hx, hn⟩ := Option.map_eq_some_iff.1 hf
    exact ⟨rs, x, hm, hx, hn⟩
  | _ => exact nomatch hf

/-! ### The retransmit timer settles (R31) -/

@[simp] theorem Subscription.settleTimer_state (r : Subscription) : r.settleTimer.state = r.state := by
  unfold Subscription.settleTimer; split <;> rfl
@[simp] theorem Subscription.settleTimer_ack (r : Subscription) : r.settleTimer.ack = r.ack := by
  unfold Subscription.settleTimer; split <;> rfl
@[simp] theorem Subscription.settleTimer_send (r : Subscription) : r.settleTimer.send = r.send := by
  unfold Subscription.settleTimer; split <;> rfl
@[simp] theorem Subscription.settleTimer_window (r : Subscription) : r.settleTimer.window = r.window := by
  unfold Subscription.settleTimer; split <;> rfl
@[simp] theorem Subscription.settleTimer_timeoutMs (r : Subscription) : r.settleTimer.timeoutMs = r.timeoutMs := by
  unfold Subscription.settleTimer; split <;> rfl
@[simp] theorem Subscription.settleTimer_retry (r : Subscription) : r.settleTimer.retry = r.retry := by
  unfold Subscription.settleTimer; split <;> rfl
@[simp] theorem Subscription.settleTimer_retain (r : Subscription) : r.settleTimer.retain = r.retain := by
  unfold Subscription.settleTimer; split <;> rfl
@[simp] theorem Subscription.settleTimer_gap (r : Subscription) : r.settleTimer.gap = r.gap := by
  unfold Subscription.settleTimer; split <;> rfl

/-- The reader with its send point set back by `k` records, its timer stopped if none is then in flight (R30, R31). -/
def Subscription.sendBack (r : Subscription) (k : Nat) : Subscription :=
  { r with send := r.send - BitVec.ofNat 32 k }.settleTimer

/-- The timer of a reader in its bounds runs with records in flight alone (R31). -/
theorem Subscription.Ok.settleTimer_eq {j : Journal} {r : Subscription} (h : r.Ok j) : r.settleTimer = r := by
  unfold Subscription.settleTimer
  split
  · next hf =>
    have ht : r.timer = none := by
      cases hr : r.timer with
      | none => rfl
      | some d => exact absurd hf (h.timer.1 (by simp [hr])).2
    rw [← ht]
  · rfl

/-- A withdrawal sets the send point of a reader in order back by the records of the frame, which, while the retry count
is not 0, are in flight (R30). -/
theorem ReaderOk.withdrawRecords {p : Port} {s : State} {j : Journal} {r : Subscription}
    (hr : s.readers.get p = some r) (h : ReaderOk j (some r) (s.ports.get p).waiting) :
    ∃ k ≤ 4, (r.retry ≠ 0 → k ≤ r.inFlight) ∧ (Machine.withdrawRecords p s).readers.get p = some (r.sendBack k) := by
  unfold Machine.withdrawRecords
  rw [hr]
  split
  · next first r' hfirst hr' =>
    cases hr'
    obtain ⟨rs, x, hm, hx, rfl⟩ := exists_of_waitingFirst hfirst
    obtain ⟨hlen, ⟨y, hy, hsend⟩, hfl⟩ := h.waiting r rs rfl hm
    obtain rfl : x = y := Option.some.inj (hx.symm.trans hy)
    refine ⟨rs.length, hlen, hfl, ?_⟩
    have hback : r.send - BitVec.ofNat 32 rs.length = x.seq := by rw [hsend]; exact BitVec.add_sub_cancel _ _
    simp [Subscription.sendBack, hback]
  · refine ⟨0, Nat.zero_le _, fun _ => Nat.zero_le _, ?_⟩
    have : r.sendBack 0 = r := by
      simpa [Subscription.sendBack] using (h.bounds r rfl).settleTimer_eq
    simpa [this] using hr

/-- A point set back lies so much further below. -/
theorem distance_sub {next n : Seq} {k : Nat} (h : distance next n + k ≤ 2064) :
    distance next (n - BitVec.ofNat 32 k) = distance next n + k := by
  simp only [distance] at *
  bv_omega

/-- The timer of a reader after a change of its send point alone, with records still in flight only where some were
before (R31). -/
theorem Subscription.settleTimer_timer {j : Journal} {r x : Subscription} (h : r.Ok j) (htimer : x.timer = r.timer)
    (hstate : x.state = r.state) (hf : x.inFlight ≠ 0 → r.inFlight ≠ 0) :
    x.settleTimer.timer.isSome = true ↔ x.state = .active ∧ x.inFlight ≠ 0 := by
  unfold Subscription.settleTimer
  split
  · next h0 => simp [h0]
  · next h0 =>
    rw [htimer, h.timer, hstate]
    simp [hf h0, h0]

/-- The timer apart, a reader whose timer settles stays as it is. -/
theorem Subscription.settleTimer_eq (r : Subscription) : r.settleTimer = { r with timer := r.settleTimer.timer } := by
  unfold Subscription.settleTimer
  split <;> rfl

/-- A reader whose send point goes back within the records in flight stays in its bounds (R26, R30). -/
theorem Subscription.Ok.sendBack {j : Journal} {r : Subscription} (h : r.Ok j) {k : Nat} (hk : k ≤ r.inFlight) :
    (r.sendBack k).Ok j := by
  have hflight := r.inFlight_eq h.below
  have hband : distance j.next r.ack ≤ 2064 := h.band
  have hbelow := h.below
  have hsend : distance j.next (r.send - BitVec.ofNat 32 k) = distance j.next r.send + k := distance_sub (by omega)
  have hflight' : Subscription.inFlight { r with send := r.send - BitVec.ofNat 32 k } = r.inFlight - k := by
    rw [Subscription.inFlight_eq (next := j.next) (by rw [hsend]; show _ < distance j.next r.ack; omega), hsend]
    show distance j.next r.ack - _ - 1 = _
    omega
  have htimer := Subscription.settleTimer_timer (x := { r with send := r.send - BitVec.ofNat 32 k }) h rfl rfl
    (by rw [hflight']; omega)
  have hack := h.ack
  have hmax := h.flight
  rw [Subscription.sendBack, Subscription.settleTimer_eq]
  exact { h with
    timer := htimer
    flight := by show Subscription.inFlight { r with send := _ } ≤ _; rw [hflight']; exact (Nat.sub_le _ _).trans hmax
    below := by show distance _ (r.send - _) < _; rw [hsend]; show _ < distance j.next r.ack; omega
    send := by show distance _ (r.send - _) ≤ _; rw [hsend]; omega }

end Sys2Proof.Machine
end

section
/-!
PROOFS. What an append and a release do to the readers (R19, R20, R31, R41).
-/
namespace Sys2Proof.Machine

/-! ### The loss of an overwritten record (R41) -/

theorem OthersKept.loseRecord (n : Seq) (p : Port) (s : State) : OthersKept p s (loseRecord n p s) := by
  unfold Machine.loseRecord
  split
  · exact (Quiet.refl s).othersKept p
  · split
    · exact (Quiet.refl s).othersKept p
    · dsimp only
      split
      · exact .withdrawRecords p s
      · exact ((OthersKept.withdrawRecords p s).trans (.setReader p _ _)).trans ((Quiet.raise _ _ _).othersKept p)

/-- With nothing in flight the settled timer is stopped (R31). -/
theorem Subscription.settleTimer_of_inFlight {r : Subscription} (h : r.inFlight = 0) :
    r.settleTimer = { r with timer := none } := if_pos h

/-- A reader with its send point just above its ack point has nothing in flight (R26). -/
theorem Subscription.inFlight_of_send {r : Subscription} (h : r.send = r.ack + 1) : r.inFlight = 0 := by
  simp only [Subscription.inFlight, h]
  bv_omega

/-- The ack point of a reader in its bounds moves up to the overwritten record, below its send point (R41). -/
theorem Subscription.Ok.loseAck {j j' : Journal} {r : Subscription} (h : r.Ok j) {n : Seq} {gap : Option (Seq × Seq)}
    (hn : j'.next = j.next) (hsend : distance j.next r.send < distance j.next n)
    (hack : distance j.next n < distance j.next r.ack) (hl : distance j.next n ≤ j'.held.length + 1) :
    Subscription.Ok j' { r with ack := n, gap := gap }.settleTimer := by
  have hflight := r.inFlight_eq h.below
  have hflight' : Subscription.inFlight { r with ack := n, gap := gap } =
      distance j.next n - distance j.next r.send - 1 :=
    Subscription.inFlight_eq (r := { r with ack := n, gap := gap }) hsend
  have htimer := Subscription.settleTimer_timer (x := { r with ack := n, gap := gap }) h rfl rfl
    (by rw [hflight', hflight]; omega)
  have hband := h.band
  have hmax := h.flight
  rw [Subscription.settleTimer_eq]
  exact { h with
    timer := htimer
    flight := by show Subscription.inFlight { r with ack := n, gap := gap } ≤ r.window; omega
    below := by rw [hn]; exact hsend
    send := by rw [hn]; show distance j.next r.send ≤ _; omega
    ack := by rw [hn]; exact hl
    band := by rw [hn]; show distance j.next n ≤ _; omega }

/-- The reader of a port after the loss of the record just below the held ones: it stays in order (R31, R41). -/
theorem ReaderOk.loseRecord {n : Seq} {p : Port} {s : State} {j : Journal} (hj : j.next = s.journal.next)
    (hjl : j.held.length = s.journal.held.length + 1) (hcap : j.held.length ≤ 2048)
    (hn : distance j.next n = j.held.length)
    (h : ReaderOk j (s.readers.get p) (s.ports.get p).waiting) :
    ReaderOk s.journal ((Machine.loseRecord n p s).readers.get p) ((Machine.loseRecord n p s).ports.get p).waiting := by
  unfold Machine.loseRecord
  split
  · next hr => rw [hr] at h ⊢; exact h.of_journal nofun
  · next r hr =>
    rw [hr] at h
    have hok := h.bounds r rfl
    have hd : distance s.journal.next n = s.journal.held.length + 1 := by rw [← hj, hn, hjl]
    split
    · next habove =>
      have habove : distance s.journal.next r.ack ≤ distance s.journal.next n := of_decide_eq_true habove
      rw [hr]
      refine h.of_journal fun x hx hr' => hr'.drop hj.symm ?_
      cases hx
      rw [hj, ← hd]
      exact habove
    · next hbelow =>
      have hbelow : distance s.journal.next n < distance s.journal.next r.ack :=
        Nat.lt_of_not_le fun h => hbelow (decide_eq_true h)
      obtain ⟨k, hk, -, hx⟩ := h.withdrawRecords hr
      simp only [hx]
      refine ReaderOk.of_noNewDelivery ?_ ((Quiet.raise _ _ _).frames p)
      simp only [raise_frame, State.setReader_readers, PerPort.get_set_self, State.setReader_ports,
        waiting_withdrawRecords, withdrawRecords_frame]
      have hsend : distance j.next (r.sendBack k).send = distance j.next r.send + k := by
        have := hok.send
        rw [Subscription.sendBack, Subscription.settleTimer_send]
        exact distance_sub (by omega)
      split
      · rw [Subscription.settleTimer_of_inFlight (Subscription.inFlight_of_send rfl)]
        refine h.withoutRecords (Subscription.Ok.settled ?_ ?_ rfl ?_ ?_ rfl ?_ ?_ ?_) ?_
        · simpa [Subscription.sendBack] using hok.window
        · simpa [Subscription.sendBack] using hok.timeout
        · simpa [Subscription.sendBack] using hok.retry
        · simpa [Subscription.sendBack] using hok.dormant
        · show 1 ≤ distance s.journal.next n
          omega
        · exact hd.le
        · omega
        · simp [Subscription.sendBack]
      · next hunder =>
        have hunder : distance j.next (r.sendBack k).send < distance j.next n := by
          rw [hj]
          exact Nat.lt_of_not_le fun h => hunder (decide_eq_true h)
        have hk' : k ≤ r.inFlight := by
          rw [r.inFlight_eq hok.below]
          rw [← hj] at hbelow
          omega
        refine h.withoutRecords ((hok.sendBack hk').loseAck hj.symm hunder ?_ ?_) ?_
        · simpa [Subscription.sendBack, hj] using hbelow
        · exact hj ▸ hd.le
        · simp [Subscription.sendBack]

/-! ### An append (R15 to R19) -/

/-- The overwriting of the oldest of 2,048 records keeps the readers in order (R19, R41). -/
theorem State.ReadersOk.overwriteOldest {s : State} (hJ : s.journal.Ok) (hfull : s.journal.held.length = 2048)
    (h : s.ReadersOk) : (overwriteOldest s).ReadersOk := by
  rw [State.readersOk_iff] at h ⊢
  unfold Machine.overwriteOldest
  split
  · exact h
  · next r rest hheld =>
    have hrun := hJ.run
    rw [hheld] at hrun hfull
    have hseq : distance s.journal.next r.seq = s.journal.held.length := by
      rw [hheld]
      exact distance_head_of_run hrun.1 hfull.le
    have hlen : s.journal.held.length = rest.length + 1 := by rw [hheld]; rfl
    have hcap : s.journal.held.length ≤ 2048 := hJ.capacity
    let s' : State := { s with journal := { s.journal with held := rest } }
    have ha : ReaderOk s'.journal ((loseRecord r.seq .a s').readers.get .a)
        ((loseRecord r.seq .a s').ports.get .a).waiting :=
      ReaderOk.loseRecord (j := s.journal) rfl hlen hcap hseq (h .a)
    have hother := OthersKept.loseRecord r.seq .a s' .b (by decide)
    have hb := (h .b).of_noNewDelivery hother.2
    rw [show s.readers.get .b = _ from hother.1.symm] at hb
    intro p
    cases p with
    | a =>
      have hother' := OthersKept.loseRecord r.seq .b (loseRecord r.seq .a s') .a (by decide)
      rw [hother'.1]
      simpa using ha.of_noNewDelivery hother'.2
    | b =>
      have hlost := ReaderOk.loseRecord (s := loseRecord r.seq .a s') (j := s.journal) (by simp [s'])
        (by simpa [s'] using hlen) hcap hseq hb
      simpa using hlost

/-- A record that joins the journal keeps the readers in order (R5). -/
theorem State.ReadersOk.acceptRecord {s : State} (hroom : s.journal.held.length < 2048) (h : s.ReadersOk)
    (b : RecordBody) (t : Stamp) (f : RecordFlags) : (acceptRecord b t f s).ReadersOk := by
  rw [State.readersOk_iff] at h ⊢
  intro p
  simp only [acceptRecord_frame, acceptRecord_journal]
  exact (h p).of_journal fun r _ hr => hr.append rfl List.length_append hroom

/-- An append keeps the readers in order (R15 to R19). -/
theorem State.ReadersOk.append {s : State} (hJ : s.journal.Ok) (h : s.ReadersOk) (o : Offer) :
    (append o s).1.ReadersOk := by
  have hcap : s.journal.held.length ≤ 2048 := hJ.capacity
  unfold Machine.append
  split
  · dsimp only
    split
    · next hlen => exact (h.acceptRecord hlen _ _ _).of_quiet (.handAlert _ _)
    · next hlen =>
      have hfull : s.journal.held.length = 2048 := Nat.le_antisymm hcap (Nat.le_of_not_lt hlen)
      refine ((h.overwriteOldest hJ hfull).acceptRecord ?_ _ _ _).of_quiet (.handAlert _ _)
      rw [overwriteOldest_journal, List.length_tail, hfull]
      decide
  · split
    · next hlen => exact (h.acceptRecord (Nat.lt_trans hlen (by decide)) _ _ _).of_quiet (.handAlert _ _)
    · split
      · next hlen =>
        refine State.ReadersOk.of_quiet ?_ (.handAlert _ _)
        refine State.ReadersOk.of_quiet ?_ (.raise _ _ _)
        exact h.acceptRecord (hlen.1.trans_lt (by decide)) _ _ _
      · refine State.ReadersOk.of_quiet ?_ (.handAlert _ _)
        rw [State.readersOk_iff] at h ⊢
        exact fun p => (h p).of_journal fun r _ hr => hr.of_journal rfl (length_mapLast _ _)

/-! ### Release (R20) -/

/-- The release point is a retaining reader's ack point, and no retaining reader's lies further below (R20). -/
theorem State.releasePoint_some {s : State} {point : Seq} (h : s.releasePoint = some point) :
    (∃ p, retainedAck (s.readers.get p) = some point) ∧
      ∀ p a, retainedAck (s.readers.get p) = some a → distance s.journal.next a ≤ distance s.journal.next point := by
  unfold State.releasePoint at h
  split at h
  · next a b ha hb =>
    obtain rfl := Option.some.inj h
    unfold furtherBelow
    split
    · next hlt =>
      refine ⟨⟨.b, hb⟩, fun p x hx => ?_⟩
      cases p with
      | a => cases ha.symm.trans hx; exact hlt.le
      | b => cases hb.symm.trans hx; exact le_rfl
    · next hle =>
      refine ⟨⟨.a, ha⟩, fun p x hx => ?_⟩
      cases p with
      | a => cases ha.symm.trans hx; exact le_rfl
      | b => cases hb.symm.trans hx; exact Nat.le_of_not_lt hle
  · next a ha hb =>
    obtain rfl := Option.some.inj h
    refine ⟨⟨.a, ha⟩, fun p x hx => ?_⟩
    cases p with
    | a => cases ha.symm.trans hx; exact le_rfl
    | b => exact nomatch hb.symm.trans hx
  · next b ha hb =>
    obtain rfl := Option.some.inj h
    refine ⟨⟨.b, hb⟩, fun p x hx => ?_⟩
    cases p with
    | a => exact nomatch ha.symm.trans hx
    | b => cases hb.symm.trans hx; exact le_rfl
  · exact nomatch h

/-- With no retaining reader there is no release point (R20). -/
theorem State.releasePoint_none {s : State} (h : ∀ p, retainedAck (s.readers.get p) = none) :
    s.releasePoint = none := by
  have ha : retainedAck s.readers.a = none := h .a
  have hb : retainedAck s.readers.b = none := h .b
  simp only [State.releasePoint, ha, hb]

/-- A reader in its bounds is retaining: a DORMANT one is a retaining one (R36). -/
theorem Subscription.Ok.retainedAck_eq {j : Journal} {r : Subscription} (h : r.Ok j) :
    retainedAck (some r) = some r.ack := by
  have : r.retaining = true := by
    unfold Subscription.retaining
    split
    · next hs => exact h.dormant hs
    · rfl
    · rfl
  simp [retainedAck, this]

/-- Release keeps the readers in order: no record above a reader's ack point leaves (R20). -/
theorem State.ReadersOk.evaluateRelease {s : State} (hJ : s.journal.Ok) (h : s.ReadersOk) :
    (evaluateRelease s).ReadersOk := by
  unfold Machine.evaluateRelease
  split
  · exact h
  · next point hpoint =>
    split
    · next hlt =>
      rw [State.readersOk_iff] at h ⊢
      refine fun p => (h p).of_journal fun r hr hok => hok.drop rfl ?_
      have hle := (State.releasePoint_some hpoint).2 p r.ack (by rw [hr, hok.retainedAck_eq])
      have hpos := hok.below
      rw [hJ.above_eq, List.length_drop] at hlt
      simp only [Journal.closeMarker, length_mapLast, hJ.above_eq, List.length_drop]
      omega
    · exact h

end Sys2Proof.Machine
end

section
/-!
PROOFS. The commands of the delivery unit, of the journal and of a session's end keep the readers in order (R28 to R44).
-/
namespace Sys2Proof.Machine

/-- With its RECORDS and GAP frames withdrawn a port delivers nothing. -/
theorem not_delivers_withdraw (frames : List Frame) :
    ¬ Delivers (frames.filter fun f => !(f.isRecords || f.isGap)) := by
  rintro ⟨f, hm, hd⟩
  have := (List.mem_filter.1 hm).2
  rcases hd with hd | hd <;> simp [hd] at this

/-- A change that keeps the journal keeps its order. -/
theorem State.ReadersOk.of_reader {p : Port} {s t : State} (h : s.ReadersOk) (hj : t.journal = s.journal)
    (ho : OthersKept p s t) (hp : ReaderOk s.journal (t.readers.get p) (t.ports.get p).waiting) : t.ReadersOk :=
  h.of_port (fun _ hr => hr.of_journal (by rw [hj]) (by rw [hj])) ho (hj ▸ hp)

/-! ### Ending and setting up (R28, R39) -/

/-- A port's RECORDS and GAP frames are withdrawn, and its reader replaced or ended. -/
theorem State.ReadersOk.replaceReader {s : State} (h : s.ReadersOk) (p : Port) {reader : Option Subscription}
    (hr : ∀ r, reader = some r → r.Ok s.journal) :
    ((s.withdraw p fun f => f.isRecords || f.isGap).setReader p reader).ReadersOk := by
  refine h.of_reader (p := p) rfl (((Quiet.withdraw s p _).othersKept p).trans (.setReader p _ _)) ?_
  simp only [State.setReader_readers, PerPort.get_set_self, State.setReader_ports, State.withdraw_ports]
  cases reader with
  | none => exact .none (not_delivers_withdraw _)
  | some r => exact .idle (hr r rfl) (not_delivers_withdraw _)

theorem State.ReadersOk.endReader {s : State} (hJ : s.journal.Ok) (h : s.ReadersOk) (p : Port) :
    (endReader p s).ReadersOk := by
  unfold Machine.endReader
  split
  · exact h
  · exact State.ReadersOk.evaluateRelease hJ (h.replaceReader p nofun)

/-- The start of a SUBSCRIBE is a held record or the next number (R28). -/
theorem distance_startSeq {j : Journal} (hJ : j.Ok) {start : SubscribeStart} {n : Seq}
    (h : startSeq j start = some n) : distance j.next n ≤ j.held.length := by
  have hcap : j.held.length ≤ 2048 := hJ.capacity
  unfold startSeq at h
  split at h
  · obtain rfl := Option.some.inj h
    simp only [distance]
    bv_omega
  · obtain rfl := Option.some.inj h
    simp [distance]
  · split at h
    · next hn =>
      obtain rfl := Option.some.inj h
      rcases (Bool.or_eq_true _ _).mp hn with hn | hn
      · exact (of_decide_eq_true ((Bool.and_eq_true _ _).mp hn).2)
      · simp [distance, beq_iff_eq.mp hn]
    · exact nomatch h

/-- The reader a SUBSCRIBE sets up is within its bounds (R28). -/
theorem newSubscription_ok {j : Journal} (hJ : j.Ok) {f : SubscribeFields} {n : Seq}
    (hwindow : 1 ≤ f.window ∧ f.window ≤ Config.maxWindow) (htimeout : 20 ≤ f.timeoutMs ∧ f.timeoutMs ≤ 5000)
    (h : startSeq j f.start = some n) : (newSubscription f n).Ok j := by
  have hcap : j.held.length ≤ 2048 := hJ.capacity
  have hd := distance_startSeq hJ h
  have hack : distance j.next (n - 1) = distance j.next n + 1 := distance_pred (by omega)
  refine .settled hwindow htimeout rfl ?_ nofun ?_ ?_ ?_ hcap
  · simp [newSubscription]
  · simp [newSubscription]
  · simp only [newSubscription, hack]
    omega
  · simp only [newSubscription, hack]
    omega

/-- The window and the timeout of a SUBSCRIBE are in range (R28). -/
theorem subscribeOf_inRange {bs : List Byte} {f : SubscribeFields} (h : subscribeOf bs = some f) :
    (1 ≤ f.window ∧ f.window ≤ Config.maxWindow) ∧ (20 ≤ f.timeoutMs ∧ f.timeoutMs ≤ 5000) := by
  simp only [subscribeOf, within, Option.bind_eq_bind, Option.bind_eq_some_iff] at h
  obtain ⟨_, _, _, hw, _, ht, _, _, hf⟩ := h
  split at hw
  · split at ht
    · cases hw
      cases ht
      cases hf
      exact ⟨by assumption, by assumption⟩
    · exact nomatch ht
  · exact nomatch hw

theorem State.ReadersOk.subscribeBlock {s : State} (hJ : s.journal.Ok) (h : s.ReadersOk) (p : Port) (bs : List Byte) :
    (subscribeBlock p bs s).1.ReadersOk := by
  unfold Machine.subscribeBlock
  split
  · exact h
  · next f hf =>
    split
    · exact h
    · next start hstart =>
      obtain ⟨hwindow, htimeout⟩ := subscribeOf_inRange hf
      refine State.ReadersOk.evaluateRelease hJ (h.replaceReader p ?_)
      rintro _ ⟨⟩
      exact newSubscription_ok hJ hwindow htimeout hstart

/-! ### Resuming and going back (R33, R38) -/

/-- A reader in its bounds that goes back, its state and retry count changed together (R33, R36, R38). -/
theorem Subscription.Ok.goBack {j : Journal} (hJ : j.Ok) {r : Subscription} (h : r.Ok j) {state : SubState}
    {retry : Nat} (hretry : retry ≤ Config.retryLimit ∧ (retry = Config.retryLimit ↔ state = .stalled))
    (hdormant : state = .dormant → r.retain = true) :
    Subscription.Ok j { r.goBack with state := state, retry := retry } :=
  .settled h.window h.timeout rfl hretry hdormant rfl (Nat.lt_of_le_of_lt (Nat.zero_le _) h.below) h.ack hJ.capacity

/-- The reader of a port in order, its waiting RECORDS frame withdrawn, but for its send point and its timer. -/
theorem State.ReadersOk.exists_withdrawn {s : State} {p : Port} {x : Subscription}
    (hx : (withdrawRecords p s).readers.get p = some x) :
    ∃ r, s.readers.get p = some r ∧ x = { r with send := x.send, timer := x.timer } := by
  cases hr : s.readers.get p with
  | none => exact nomatch (reader_withdrawRecords_none hr).symm.trans hx
  | some r =>
    obtain ⟨y, hy, hyr⟩ := reader_withdrawRecords hr
    cases hy.symm.trans hx
    exact ⟨r, rfl, hyr⟩

/-- A port's waiting RECORDS frame is withdrawn, and its reader set to one in its bounds. -/
theorem State.ReadersOk.setWithdrawn {s : State} {p : Port} {r x : Subscription} (h : s.ReadersOk)
    (hr : s.readers.get p = some r) (hx : x.Ok s.journal) (hs : x.state = .dormant → r.state = .dormant) :
    ((withdrawRecords p s).setReader p (some x)).ReadersOk := by
  refine h.of_reader (p := p) (by simp) ((OthersKept.withdrawRecords p s).trans (.setReader p _ _)) ?_
  simp only [State.setReader_readers, PerPort.get_set_self, State.setReader_ports, waiting_withdrawRecords]
  exact (hr ▸ s.readersOk_iff.1 h p).withoutRecords hx hs

theorem State.ReadersOk.resumeBlock {s : State} (hJ : s.journal.Ok) (h : s.ReadersOk) (p : Port) (bs : List Byte) :
    (resumeBlock p bs s).1.ReadersOk := by
  unfold Machine.resumeBlock
  dsimp only
  split
  · exact h
  · next x hx =>
    obtain ⟨r, hr, hxr⟩ := State.ReadersOk.exists_withdrawn hx
    rw [hxr]
    refine h.setWithdrawn hr ?_ nofun
    exact (h.bounds p r hr).goBack hJ (by simp) nofun

/-- Going back forgets a withdrawal: both set the send point (R30, R33). -/
theorem Subscription.goBack_sendBack (r : Subscription) (k : Nat) : (r.sendBack k).goBack = r.goBack := by
  simp only [Subscription.sendBack, Subscription.settleTimer]
  split <;> rfl

/-- An ACTIVE reader in its bounds that stalls at the last expiry (R33). -/
theorem Subscription.Ok.stall {j : Journal} {r : Subscription} (h : r.Ok j) :
    Subscription.Ok j { r with retry := Config.retryLimit, state := .stalled, timer := none } :=
  { h with
    timer := iff_of_false (by simp) nofun
    retry := ⟨le_rfl, iff_of_true rfl rfl⟩
    dormant := nofun }

/-- An ACTIVE reader stays in its bounds at an expiry of its timer: it goes back, or it stalls (R33). -/
theorem Subscription.Ok.retried {j : Journal} (hJ : j.Ok) {r : Subscription} (h : r.Ok j) (hs : r.state = .active)
    {k : Nat} (hk : r.retry ≠ 0 → k ≤ r.inFlight) :
    (r.sendBack k).retried.Ok j ∧ (r.sendBack k).retried.state ≠ .dormant := by
  have hlimit : r.retry ≤ 8 ∧ (r.retry = 8 ↔ r.state = .stalled) := h.retry
  have hne : r.retry ≠ 8 := fun h8 => nomatch hs.symm.trans (hlimit.2.1 h8)
  have hretry : (r.sendBack k).retry = r.retry := by simp [Subscription.sendBack]
  unfold Subscription.retried
  rw [hretry, Subscription.goBack_sendBack]
  split
  · next hlt =>
    refine ⟨h.goBack hJ ⟨hlt.le, iff_of_false hlt.ne ?_⟩ ?_, ?_⟩
    · simp [Subscription.goBack, hs]
    · simp [Subscription.goBack, hs]
    · simp [Subscription.goBack, hs]
  · next hge =>
    have h7 : r.retry = 7 := by
      have : 8 ≤ r.retry + 1 := Nat.le_of_not_lt hge
      omega
    rw [h7]
    exact ⟨(h.sendBack (hk (by omega))).stall, nofun⟩

theorem State.ReadersOk.retransmitExpiry {s : State} (hJ : s.journal.Ok) (h : s.ReadersOk) {p : Port}
    {r : Subscription} (hr : s.readers.get p = some r) (hactive : r.state = .active) :
    (retransmitExpiry p s).ReadersOk := by
  obtain ⟨k, -, hk, hx⟩ := ReaderOk.withdrawRecords hr (hr ▸ s.readersOk_iff.1 h p)
  obtain ⟨hok, hawake⟩ := (h.bounds p r hr).retried hJ hactive hk
  have hset := h.setWithdrawn hr hok fun hd => absurd hd hawake
  unfold Machine.retransmitExpiry
  simp only [hx]
  split
  · exact hset
  · exact hset.of_quiet (.raise _ _ _)

/-- RETRANSMIT_TIMER_EXPIRY (R33). -/
theorem State.ReadersOk.execRetransmitTimerExpiry {s t : State} (hJ : s.journal.Ok) (h : s.ReadersOk) {p : Port}
    (ht : execRetransmitTimerExpiry p s = .next t) : t.ReadersOk := by
  obtain rfl := Host.Outcome.next.inj ht
  split
  · exact h
  · next r hr =>
    split
    · next hcond =>
      exact h.retransmitExpiry hJ hr (beq_iff_eq.mp ((Bool.and_eq_true _ _).mp hcond).1)
    · exact h

/-! ### Acknowledgement (R32) -/

/-- A reader in its bounds whose ack point moves up, below its send point (R32). -/
theorem Subscription.Ok.acknowledge {j : Journal} {r : Subscription} (h : r.Ok j) (now : Uptime) {n : Seq}
    (hsend : distance j.next r.send < distance j.next n) (hack : distance j.next n < distance j.next r.ack) :
    (r.acknowledge now n).Ok j := by
  have hflight := r.inFlight_eq h.below
  have hflight' : (r.acknowledge now n).inFlight = distance j.next n - distance j.next r.send - 1 :=
    Subscription.inFlight_eq (r := r.acknowledge now n) hsend
  have hmax := h.flight
  have hlow := h.ack
  have hband := h.band
  exact { h with
    timer := by
      show (Subscription.timer _).isSome = true ↔ SubState.active = .active ∧ _
      rw [Subscription.acknowledge]
      dsimp only
      split
      · next h0 => exact iff_of_false (by simp) fun hne => hne.2 h0
      · next h0 => exact iff_of_true rfl ⟨rfl, h0⟩
    retry := ⟨Nat.zero_le _, iff_of_false nofun nofun⟩
    dormant := nofun
    flight := by show (r.acknowledge now n).inFlight ≤ r.window; omega
    below := hsend
    ack := by show distance j.next n ≤ _; omega
    band := by show distance j.next n ≤ _; omega }

theorem State.ReadersOk.ackBlock {s : State} (hJ : s.journal.Ok) (h : s.ReadersOk) (p : Port) (bs : List Byte) :
    (ackBlock p bs s).1.ReadersOk := by
  unfold Machine.ackBlock
  split
  · exact h
  · next r hr =>
    have hawake (hs : r.state ≠ .dormant) : (ackReader p r (fieldSeq bs 0) s).1.ReadersOk := by
      unfold ackReader
      split
      · exact h
      · split
        · exact h
        · split
          · exact h
          · next hsend hack =>
            refine State.ReadersOk.evaluateRelease hJ ?_
            have hreader : ReaderOk s.journal (some r) (s.ports.get p).waiting := hr ▸ s.readersOk_iff.1 h p
            have hsend : distance s.journal.next r.send < distance s.journal.next (fieldSeq bs 0) :=
              Nat.lt_of_not_le fun h => hsend (decide_eq_true h)
            have hack : distance s.journal.next (fieldSeq bs 0) < distance s.journal.next r.ack :=
              Nat.lt_of_not_le fun h => hack (decide_eq_true h)
            refine h.of_reader (p := p) rfl (.setReader p s _) ?_
            rw [State.setReader_readers, PerPort.get_set_self]
            refine ⟨?_, fun _ _ _ => ⟨_, rfl, nofun⟩, ?_⟩
            · rintro _ ⟨⟩
              exact (h.bounds p r hr).acknowledge _ hsend hack
            · rintro _ rs ⟨⟩ hm
              obtain ⟨hlen, hx, -⟩ := hreader.waiting r rs rfl hm
              exact ⟨hlen, hx, fun hne => absurd rfl hne⟩
    split
    · exact h
    · next hs => exact hawake (by simp [hs])
    · next hs => exact hawake (by simp [hs])

/-! ### Sending (R29, R30, R42) -/

/-- The records of a RECORDS frame: at most four, at most the window's room, the first at the send point, and no more
than lie between the send point and the next number (R29). -/
theorem frameRecords_spec {j : Journal} (hJ : j.Ok) (r : Subscription) {x : Record} {xs : List Record}
    (h : frameRecords j r = x :: xs) : xs.length + 1 ≤ 4 ∧ xs.length + 1 ≤ r.window - r.inFlight ∧ x.seq = r.send ∧
      xs.length + 1 ≤ distance j.next r.send := by
  have hprefix : frameRecords j r <+: j.from_ r.send := (List.take_prefix _ _).trans (List.takeWhile_prefix _)
  have hlen : (frameRecords j r).length ≤ min 4 (r.window - r.inFlight) := List.length_take_le _ _
  have hfrom : (j.from_ r.send).length ≤ distance j.next r.send := by
    rw [Journal.from_, dropWhile_ne_of_run j.next r.send j.held hJ.run hJ.capacity]
    split
    · next hd =>
      rw [List.length_drop]
      simp only [distance]
      omega
    · exact Nat.zero_le _
  have hle := hprefix.length_le
  obtain ⟨ys, hys⟩ := hprefix
  rw [h] at hlen hle hys
  simp only [List.length_cons] at hlen hle
  refine ⟨by omega, by omega, ?_, by omega⟩
  have := List.head?_dropWhile_not (fun y : Record => y.seq != r.send) j.held
  rw [show j.held.dropWhile _ = _ from hys.symm] at this
  simpa using this

/-- An ACTIVE reader in its bounds that queues records it has room for (R29 to R31). -/
theorem Subscription.Ok.queued {j : Journal} {r : Subscription} (h : r.Ok j) (hs : r.state = .active) (now : Uptime)
    {n : Nat} (hpos : 1 ≤ n) (hroom : n ≤ r.window - r.inFlight) (hheld : n ≤ distance j.next r.send) :
    (r.queued now n).Ok j ∧ (r.queued now n).inFlight = r.inFlight + n := by
  have hflight := r.inFlight_eq h.below
  have hbelow := h.below
  have hlow := h.send
  have hband : distance j.next r.ack ≤ 2064 := h.band
  have hsend : distance j.next (r.queued now n).send = distance j.next r.send - n := by
    simp only [Subscription.queued, distance] at *
    bv_omega
  have hflight' : (r.queued now n).inFlight = r.inFlight + n := by
    have hbelow' : distance j.next (r.queued now n).send < distance j.next r.ack := by omega
    rw [Subscription.inFlight_eq (next := j.next) hbelow', hsend, hflight]
    show distance j.next r.ack - _ - 1 = _
    omega
  refine ⟨{ h with
    timer := ?_
    flight := by rw [hflight']; show r.inFlight + n ≤ r.window; omega
    below := by rw [hsend]; show _ < distance j.next r.ack; omega
    send := by rw [hsend]; omega }, hflight'⟩
  rw [hflight']
  refine iff_of_true ?_ ⟨hs, by omega⟩
  unfold Subscription.queued
  cases r.timer <;> rfl

/-- QUEUE_RECORDS_FRAME: an ACTIVE reader's next records become its waiting frame (R29 to R31). -/
theorem State.ReadersOk.execQueueRecordsFrame {s t : State} (hJ : s.journal.Ok) (h : s.ReadersOk) {p : Port}
    (ht : execQueueRecordsFrame p s = .next t) : t.ReadersOk := by
  obtain rfl := Host.Outcome.next.inj ht
  split
  · exact h
  · next r hr =>
    dsimp only
    split
    · next hcond =>
      obtain ⟨hmay, hne⟩ := (Bool.and_eq_true _ _).mp hcond
      simp only [maySend, Bool.and_eq_true, beq_iff_eq, Bool.not_eq_true', List.any_eq_false, Bool.not_eq_true] at hmay
      obtain ⟨⟨⟨hactive, -⟩, -⟩, hwaits⟩ := hmay
      cases hrs : frameRecords s.journal r with
      | nil => simp [hrs] at hne
      | cons x xs =>
        obtain ⟨hfour, hroom, hseq, hheld⟩ := frameRecords_spec hJ r hrs
        obtain ⟨hok, hflight⟩ := (h.bounds p r hr).queued hactive s.clock.uptime (Nat.succ_pos _) hroom hheld
        refine h.of_reader (p := p) rfl ((OthersKept.setPort p s _).trans (.setReader p _ _)) ?_
        simp only [State.setReader_readers, PerPort.get_set_self, State.setReader_ports, State.queueFrame_ports]
        refine ⟨?_, fun _ _ _ => ⟨_, rfl, ?_⟩, ?_⟩
        · rintro _ ⟨⟩
          exact hok
        · simp [Subscription.queued, hactive]
        · rintro _ rs ⟨⟩ hm
          rcases List.mem_append.1 hm with hm | hm
          · exact nomatch hwaits _ hm
          · obtain rfl := Frame.records.inj (List.mem_singleton.1 hm)
            refine ⟨hfour, ⟨x, rfl, by rw [hseq]; rfl⟩, fun _ => ?_⟩
            rw [List.length_cons, hflight]
            exact Nat.le_add_left _ _
    · exact h

/-- QUEUE_GAP_FRAME: an awake reader's pending gap leaves it for a GAP frame (R42). -/
theorem State.ReadersOk.execQueueGapFrame {s t : State} (h : s.ReadersOk) {p : Port}
    (ht : execQueueGapFrame p s = .next t) : t.ReadersOk := by
  obtain rfl := Host.Outcome.next.inj ht
  split
  · exact h
  · next r hr =>
    split
    · exact h
    · next first last hgap =>
      split
      · next hcond =>
        have hawake : r.state ≠ .dormant := by
          simpa [Subscription.awake] using ((Bool.and_eq_true _ _).mp hcond).1
        refine h.of_reader (p := p) rfl ((OthersKept.setPort p s _).trans (.setReader p _ _)) ?_
        have hreader : ReaderOk s.journal (some r) (s.ports.get p).waiting := hr ▸ s.readersOk_iff.1 h p
        simp only [State.setReader_readers, PerPort.get_set_self, State.setReader_ports, State.queueFrame_ports]
        refine ⟨?_, fun _ _ _ => ⟨_, rfl, hawake⟩, ?_⟩
        · rintro _ ⟨⟩
          exact { h.bounds p r hr with }
        · rintro _ rs ⟨⟩ hm
          exact hreader.waiting r rs rfl (by simpa using hm)
      · exact h

/-! ### A session's end (R36, R43, R164) -/

/-- The withdrawal of a reader's waiting GAP frame touches its port alone. -/
theorem OthersKept.returnGap (p : Port) (s : State) : OthersKept p s (returnGap p s) := by
  unfold Machine.returnGap
  split
  · exact (Quiet.refl s).othersKept p
  · dsimp only
    split
    · exact (Quiet.withdraw s p _).othersKept p
    · exact ((Quiet.withdraw s p _).othersKept p).trans (.setReader p _ _)

/-- The range of a waiting GAP frame is absent when none waits, and only then. -/
theorem waitingGap_eq_none_iff {frames : List Frame} : waitingGap frames = none ↔ ∀ f ∈ frames, f.isGap = false := by
  rw [waitingGap, List.findSome?_eq_none_iff]
  refine forall₂_congr fun f _ => ?_
  cases f <;> simp [Frame.isGap]

/-- The returned gap leaves no GAP frame waiting, and no new frame (R43). -/
theorem waiting_returnGap (p : Port) (s : State) : ((returnGap p s).ports.get p).waiting =
    (s.ports.get p).waiting.filter fun f => !f.isGap := by
  unfold returnGap
  split
  · next h =>
    rw [eq_comm, List.filter_eq_self]
    intro f hm
    rw [waitingGap_eq_none_iff.1 h f hm]
    rfl
  · dsimp only
    split <;> simp

/-- A reader that takes its gap back changes in its pending gap alone (R43). -/
theorem reader_returnGap {p : Port} {s : State} {r : Subscription} (h : s.readers.get p = some r) :
    ∃ gap, (returnGap p s).readers.get p = some { r with gap := gap } := by
  unfold returnGap
  split
  · exact ⟨r.gap, h⟩
  · simp only [State.withdraw_readers, h, State.setReader_readers, PerPort.get_set_self]
    exact ⟨_, rfl⟩

/-- The part of a session's end before the reader's own: its session frames, its RECORDS frame and its GAP frame leave
the queue (R164). -/
def withdrawForEnd (p : Port) (s : State) : State :=
  returnGap p (withdrawRecords p (s.withdraw p Frame.isSessionFrame))

theorem OthersKept.withdrawForEnd (p : Port) (s : State) : OthersKept p s (withdrawForEnd p s) :=
  (((Quiet.withdraw s p _).othersKept p).trans (.withdrawRecords p _)).trans (.returnGap p _)

@[simp] theorem withdrawForEnd_journal (p : Port) (s : State) : (withdrawForEnd p s).journal = s.journal := by
  simp [withdrawForEnd]

/-- No RECORDS or GAP frame waits for a session that ends (R164). -/
theorem not_delivers_withdrawForEnd (p : Port) (s : State) :
    ¬ Delivers ((withdrawForEnd p s).ports.get p).waiting := by
  rintro ⟨f, hm, hd⟩
  simp only [withdrawForEnd, waiting_returnGap, waiting_withdrawRecords, List.mem_filter] at hm
  obtain ⟨⟨-, hr⟩, hg⟩ := hm
  rcases hd with hd | hd <;> simp_all

/-- The reader of a port whose session ends, but for its send point, its timer and its pending gap (R164). -/
theorem reader_withdrawForEnd {p : Port} {s : State} {r : Subscription} (h : s.readers.get p = some r) :
    ∃ send timer gap,
      (withdrawForEnd p s).readers.get p = some { r with send := send, timer := timer, gap := gap } := by
  obtain ⟨x, hx, hxr⟩ := reader_withdrawRecords (s := s.withdraw p Frame.isSessionFrame) (p := p) h
  obtain ⟨gap, hg⟩ := reader_returnGap hx
  exact ⟨x.send, x.timer, gap, by rw [withdrawForEnd, hg, hxr]⟩

/-- With no RECORDS and no GAP frame waiting a session's end leaves the readers as they were (R164). -/
theorem readers_withdrawForEnd {p : Port} {s : State} (h : ¬ Delivers (s.ports.get p).waiting) :
    (withdrawForEnd p s).readers = s.readers := by
  have hkept {f : Frame} (hm : f ∈ ((s.withdraw p Frame.isSessionFrame).ports.get p).waiting) :
      f ∈ (s.ports.get p).waiting := by
    simp only [State.withdraw_ports, PerPort.get_set_self] at hm
    exact List.mem_of_mem_filter hm
  have hr : withdrawRecords p (s.withdraw p Frame.isSessionFrame) = s.withdraw p Frame.isSessionFrame :=
    withdrawRecords_eq_self fun rs hm => h ⟨_, hkept hm, .inl rfl⟩
  have hg : waitingGap ((s.withdraw p Frame.isSessionFrame).ports.get p).waiting = none :=
    waitingGap_eq_none_iff.2 fun f hm => Bool.eq_false_iff.2 fun hf => h ⟨f, hkept hm, .inr hf⟩
  rw [withdrawForEnd, hr, returnGap, hg]
  rfl

/-- The reader's part of a session's end keeps the readers in order: with no frame waiting, an awake reader becomes
DORMANT with nothing in flight, or is ended (R36). -/
theorem State.ReadersOk.endReaderOfSession {s : State} (hJ : s.journal.Ok) (h : s.ReadersOk) (p : Port) :
    (readerSessionEnd p (withdrawForEnd p s)).ReadersOk := by
  have hidle := not_delivers_withdrawForEnd p s
  have hothers := OthersKept.withdrawForEnd p s
  have hreader := s.readersOk_iff.1 h p
  -- The readers stay in order when the reader of this port becomes one in its bounds, or none.
  have hset {reader : Option Subscription} (hr : ∀ r, reader = some r → r.Ok s.journal) :
      ((withdrawForEnd p s).setReader p reader).ReadersOk := by
    refine h.of_reader (p := p) (by simp) (hothers.trans (.setReader p _ _)) ?_
    rw [State.setReader_readers, PerPort.get_set_self, State.setReader_ports]
    cases reader with
    | none => exact .none hidle
    | some r => exact .idle (hr r rfl) hidle
  cases hr : s.readers.get p with
  | none =>
    have hreaders : (withdrawForEnd p s).readers.get p = none := by
      rw [readers_withdrawForEnd, hr]
      rintro ⟨f, hm, hd⟩
      obtain ⟨_, hsome, -⟩ := hreader.awake f hm hd
      exact nomatch hr.symm.trans hsome
    have hend : readerSessionEnd p (withdrawForEnd p s) = withdrawForEnd p s := by
      simp only [readerSessionEnd, hreaders]
    rw [hend]
    exact h.of_reader (p := p) (by simp) hothers (hreaders ▸ .none hidle)
  | some r =>
    rw [hr] at hreader
    have hok := hreader.bounds r rfl
    obtain ⟨send, timer, gap, hx⟩ := reader_withdrawForEnd hr
    have hawake : (if r.retain then (withdrawForEnd p s).setReader p (some { r with
          state := .dormant, send := r.ack + 1, retry := 0, timer := none, gap := gap })
        else Machine.evaluateRelease ((withdrawForEnd p s).setReader p none)).ReadersOk := by
      split
      · next hretain =>
        refine hset ?_
        rintro _ ⟨⟩
        exact { hok.goBack hJ (state := .dormant) (retry := 0) (by simp) fun _ => hretain with }
      · exact State.ReadersOk.evaluateRelease (by simpa using hJ) (hset nofun)
    rw [readerSessionEnd, hx]
    dsimp only
    cases hs : r.state with
    | dormant =>
      have hreaders : (withdrawForEnd p s).readers.get p = some r := by
        rw [readers_withdrawForEnd (hreader.not_delivers hs), hr]
      exact h.of_reader (p := p) (by simp) hothers (hreaders ▸ .idle hok hidle)
    | active => exact hawake
    | stalled => exact hawake

theorem State.ReadersOk.endSession {s : State} (hJ : s.journal.Ok) (h : s.ReadersOk) (p : Port) :
    (endSession p s).ReadersOk := by
  unfold Machine.endSession
  split
  · exact h
  · have hend := h.endReaderOfSession hJ p
    refine State.ReadersOk.of_quiet ?_ (.setSession _ p _)
    split
    · exact State.ReadersOk.of_quiet hend (.of_ports rfl rfl rfl)
    · exact hend

/-! ### The journal's own commands and the reset (R21, R22, R27) -/

theorem State.ReadersOk.setMode {s : State} (h : s.ReadersOk) (mode : JournalMode) : (setMode mode s).1.ReadersOk := by
  unfold Machine.setMode
  split
  · exact h
  · exact h
  · rw [State.readersOk_iff] at h ⊢
    exact fun p => (h p).of_journal fun _ _ hr => hr.of_journal rfl (length_mapLast _ _)
  · split
    · rw [State.readersOk_iff] at h ⊢
      exact fun p => (h p).of_journal fun _ _ hr => hr.of_journal rfl rfl
    · exact h

/-- The readers of a cleared journal stand at its CLEARED record, whatever their points and timers were (R21, R44). -/
theorem Subscription.Ok.cleared {j j' : Journal} {r : Subscription} (h : r.Ok j) {n : Seq} (hlen : j'.held.length = 1)
    (hnext : j'.next = n + 1) (send : Seq) (timer : Option Uptime) :
    (Subscription.cleared n { r with send := send, timer := timer }).Ok j' := by
  have hd : distance j'.next (n - 1) = 2 := by
    simp only [hnext, distance]
    bv_omega
  refine .settled h.window h.timeout rfl ?_ ?_ ?_ ?_ ?_ ?_
  · simp only [Subscription.cleared]
    cases r.state <;> simp
  · simp only [Subscription.cleared]
    intro hs
    refine h.dormant ?_
    cases hr : r.state <;> simp_all
  · simp [Subscription.cleared]
  · exact hd.symm ▸ Nat.le_succ 1
  · rw [hlen]
    exact hd.le
  · omega

/-- A DORMANT reader, and no other, is DORMANT at the CLEARED record (R21). -/
theorem Subscription.cleared_dormant {n : Seq} {r : Subscription} :
    (r.cleared n).state = .dormant ↔ r.state = .dormant := by
  unfold Subscription.cleared
  cases r.state <;> simp

/-- The reader `y` is `x`, but for its send point and its timer. -/
def SendMoved (x y : Option Subscription) : Prop :=
  (x = none ∧ y = none) ∨ ∃ r send timer, x = some r ∧ y = some { r with send := send, timer := timer }

theorem sendMoved_withdrawRecords (p : Port) (s : State) :
    SendMoved (s.readers.get p) ((withdrawRecords p s).readers.get p) := by
  cases hr : s.readers.get p with
  | none => exact .inl ⟨rfl, reader_withdrawRecords_none hr⟩
  | some r =>
    obtain ⟨x, hx, hxr⟩ := reader_withdrawRecords hr
    exact .inr ⟨r, x.send, x.timer, rfl, hx.trans (congrArg some hxr)⟩

/-- Each port's reader and its frames once both waiting RECORDS frames are withdrawn (R21, R30). -/
theorem withdrawBoth_spec (s : State) (p : Port) :
    SendMoved (s.readers.get p) ((withdrawRecords .b (withdrawRecords .a s)).readers.get p) ∧
    NoNewDelivery ((s.ports.get p).waiting.filter fun f => !f.isRecords)
      ((withdrawRecords .b (withdrawRecords .a s)).ports.get p).waiting := by
  cases p with
  | a =>
    obtain ⟨hr, hf⟩ := OthersKept.withdrawRecords .b (withdrawRecords .a s) .a (by decide)
    rw [hr, ← waiting_withdrawRecords]
    exact ⟨sendMoved_withdrawRecords .a s, hf⟩
  | b =>
    obtain ⟨hr, hf⟩ := OthersKept.withdrawRecords .a s .b (by decide)
    rw [← hr, waiting_withdrawRecords]
    refine ⟨sendMoved_withdrawRecords .b _, fun f hm hd => ?_⟩
    obtain ⟨hm, hnot⟩ := List.mem_filter.1 hm
    exact List.mem_filter.2 ⟨hf f hm hd, hnot⟩

/-- Each port's reader once the journal is cleared: it stands at the CLEARED record (R21, R44). -/
theorem reader_clearJournal (s : State) (p : Port) : (clearJournal s).readers.get p =
    ((withdrawRecords .b (withdrawRecords .a s)).readers.get p).map (Subscription.cleared s.journal.next) := by
  cases p <;> simp [clearJournal]

theorem State.ReadersOk.clearJournal {s : State} (h : s.ReadersOk) : (clearJournal s).ReadersOk := by
  have hnext : (Machine.clearJournal s).journal.next = s.journal.next + 1 := by simp [Machine.clearJournal]
  have hlen : (Machine.clearJournal s).journal.held.length = 1 := by simp [Machine.clearJournal]
  have hports : (Machine.clearJournal s).ports = (Machine.withdrawRecords .b (Machine.withdrawRecords .a s)).ports := by
    simp [Machine.clearJournal]
  rw [State.readersOk_iff] at h ⊢
  intro p
  obtain ⟨hmoved, hframes⟩ := withdrawBoth_spec s p
  rw [reader_clearJournal, hports]
  rcases hmoved with ⟨hr, hr'⟩ | ⟨r, send, timer, hr, hr'⟩
  · rw [hr']
    have hreader := h p
    rw [hr] at hreader
    refine ReaderOk.of_noNewDelivery ?_ hframes
    exact (hreader.of_noNewDelivery (.of_subset (List.filter_subset_self _))).of_journal nofun
  · rw [hr']
    have hreader := h p
    rw [hr] at hreader
    refine ReaderOk.of_noNewDelivery (hreader.withoutRecords ?_ fun hd => ?_) hframes
    · exact (hreader.bounds r rfl).cleared hlen hnext send timer
    · exact Subscription.cleared_dormant.1 hd

/-- After a reset there is no reader, and no frame waits (R27, R168). -/
theorem State.ReadersOk.resetPart (cause : ResetCause) (straps : Straps) (s : State) :
    (resetPart cause straps s).ReadersOk := by
  rw [State.readersOk_iff]
  intro p
  cases p <;> exact .none fun ⟨_, hm, _⟩ => nomatch hm

end Sys2Proof.Machine
end

section
/-!
PROOFS. Every command kept apart into what the journal and the readers take part in and what is quiet to them: an
invariant of the journal and the readers that those operations keep, every step keeps.
-/
namespace Sys2Proof.Machine

/-! ### Quiet operations: the incident unit and the front end -/

theorem Quiet.openCall (c : Call) (s : State) : Quiet s (openCall c s).1 := by
  unfold Machine.openCall
  split
  · exact .raise _ _ s
  · exact .of_ports (by simp) (by simp) (by simp)

theorem Quiet.incidentCall (c : Call) (s : State) : Quiet s (incidentCall c s).1 := by
  unfold Machine.incidentCall
  split
  · exact .of_ports (by simp) (by simp) (by simp)
  · split
    · exact .openCall c s
    · exact .refl s

theorem Quiet.callFor (rule : LineRule) (x : EdgeInfo) (s : State) : Quiet s (callFor rule x s).1 := by
  unfold Machine.callFor
  split
  · exact .refl s
  · split
    · exact .refl s
    · exact .incidentCall _ s

theorem Quiet.setLine (s : State) (i : LineNo) (l : Line) : Quiet s (s.setLine i l) := .of_ports rfl rfl rfl

theorem Quiet.offerEntry (i : LineNo) (e : FrontEntry) (s : State) : Quiet s (offerEntry i e s) := by
  unfold Machine.offerEntry
  split
  · exact .of_ports rfl rfl rfl
  · exact (Quiet.setLine s i _).trans (.raise _ _ _)

theorem Quiet.admitHeld (s : State) : Quiet s (admitHeld s) := .of_ports (by simp) (by simp) (by simp)

theorem Quiet.lockOut (i : LineNo) (level : Level) (e : FrontEntry) (s : State) : Quiet s (lockOut i level e s) := by
  have hlocked := Quiet.setLine s i { s.lines[i] with phase := .lockedOut level, window := none, release := none }
  have hoffered := (hlocked.trans (.raise .chatterLock (.line i) _)).trans (.offerEntry i e _)
  unfold Machine.lockOut
  dsimp only
  split
  · exact hoffered
  · exact hoffered.trans (.setLine _ i _)

theorem Quiet.confirmChange (i : LineNo) (level : Level) (stamp : Stamp) (uptime : Uptime) (s : State) :
    Quiet s (confirmChange i level stamp uptime s) := by
  unfold Machine.confirmChange
  dsimp only
  split
  · exact (Quiet.setLine s i _).trans (.lockOut i level _ _)
  · exact (Quiet.setLine s i _).trans (.offerEntry i _ _)

theorem Quiet.startConfirmation (i : LineNo) (level : Level) (s : State) : Quiet s (startConfirmation i level s) := by
  unfold Machine.startConfirmation
  split
  · exact .confirmChange i level _ _ s
  · exact .setLine s i _

theorem Quiet.takeConfirming (i : LineNo) (level : Level) (count : Nat) (stamp : Stamp) (uptime : Uptime) (s : State) :
    Quiet s (takeConfirming i level count stamp uptime s) := by
  unfold Machine.takeConfirming
  split
  · exact .setLine s i _
  · split
    · exact .confirmChange i level stamp uptime s
    · exact .setLine s i _

theorem Quiet.takeSample (i : LineNo) (level : Level) (changes : Bool) (s : State) :
    Quiet s (takeSample i level changes s) := by
  unfold Machine.takeSample
  split
  · exact .of_ports rfl rfl rfl
  · split
    · exact .refl s
    · exact .startConfirmation i level s
  · exact .takeConfirming i level _ _ _ s
  · exact .of_ports (by simp) (by simp) (by simp)

theorem Quiet.sampleLine (pins : BitVec 32) (s : State) (i : LineNo) : Quiet s (sampleLine pins s i) := by
  unfold Machine.sampleLine
  dsimp only
  split
  · exact (Quiet.setLine s i _).trans (.takeSample i _ _ _)
  · exact .setLine s i _

theorem Quiet.sampleAll (pins : BitVec 32) (s : State) : Quiet s (sampleAll pins s) := by
  have hnext : Quiet s { s with nextSample := nextInstant s.clock.uptime s.nextSample s.rules.active.period } :=
    .of_ports rfl rfl rfl
  exact hnext.trans (.foldl (.sampleLine pins) _ _)

theorem Quiet.releaseLine (i : LineNo) (lockLevel : Level) (s : State) : Quiet s (releaseLine i lockLevel s) :=
  (Quiet.setLine s i _).trans (.offerEntry i _ _)

/-! ### Quiet operations: the ports and the switch controller -/

theorem Quiet.touchSession (p : Port) (s : State) : Quiet s (touchSession p s) := by
  unfold Machine.touchSession
  split
  · exact .refl s
  · exact .setSession s p _

theorem Quiet.requestArrival (p : Port) (q : Request) (s : State) : Quiet s (requestArrival p q s) := by
  unfold Machine.requestArrival
  dsimp only
  split
  · exact .refl s
  · split
    · split
      · exact .refl s
      · exact .queueFrame s p rfl rfl
    · exact .setPort (.refl _)

theorem Quiet.acceptFrame (p : Port) (q : Request) (s : State) : Quiet s (acceptFrame p q s) := by
  unfold Machine.acceptFrame
  dsimp only
  split
  · exact .touchSession p s
  · exact (Quiet.touchSession p s).trans (.requestArrival p q _)

theorem Quiet.rxEvent (p : Port) (s : State) (e : RxEvent) : Quiet s (rxEvent p s e) := by
  cases e with
  | discard => exact .raise _ _ s
  | accept q => exact .acceptFrame p q s

theorem Quiet.feed (p : Port) (bs : List Byte) (s : State) : Quiet s (feed p bs s) :=
  (Quiet.foldl (.rxEvent p) _ s).trans (.setPort (.refl _))

theorem Quiet.discardCollection (p : Port) (kept : List Byte) (s : State) : Quiet s (discardCollection p kept s) :=
  (Quiet.raise _ _ s).trans (.feed p kept _)

theorem Quiet.framingError (p : Port) (s : State) : Quiet s (framingError p s) := by
  unfold Machine.framingError
  split
  · exact .refl s
  · exact .discardCollection p _ s

/-- A request that leaves its queue does not touch the transmit queue (R157). -/
@[simp] theorem PortState.releaseRequest_waiting (x : PortState) (f : Frame) :
    (x.releaseRequest f).waiting = x.waiting := by
  unfold PortState.releaseRequest
  repeat' split
  all_goals rfl

theorem Quiet.beginFrame (p : Port) (s : State) : Quiet s (beginFrame p s) := by
  unfold Machine.beginFrame
  split
  · refine .setPort (.of_subset ?_)
    rw [PortState.releaseRequest_waiting]
    exact eraseFirst_subset _ _
  · exact .refl s

theorem Quiet.readyPortB (s : State) : Quiet s (readyPortB s) := by
  unfold Machine.readyPortB
  split
  · exact .beginFrame .b s
  · split
    · have hidle : Quiet s (s.setPort .b { s.ports.b with sending := none }) := .setPort (.refl _)
      exact hidle.trans (.beginFrame .b _)
    · exact .refl s

theorem Quiet.clockOut (s : State) : Quiet s (clockOut s) := by
  unfold Machine.clockOut
  split
  · exact .of_ports rfl rfl rfl
  · refine ⟨rfl, rfl, fun p => ?_⟩
    cases p <;> exact .refl _

theorem Quiet.endSwitch (o : SwitchOutcome) (s : State) : Quiet s (endSwitch o s) := .of_ports rfl rfl rfl

theorem Quiet.offerSwitchDone (s : State) : Quiet s (offerSwitchDone s) := by
  unfold Machine.offerSwitchDone
  split
  · exact .refl s
  · split
    · exact .queueFrame s _ rfl rfl
    · exact .refl s

theorem Quiet.rejectSwitch (r : Rejection) (s : State) : Quiet s (rejectSwitch r s) :=
  ((Quiet.endSwitch _ s).trans (.raise _ _ _)).trans (.offerSwitchDone _)

theorem Quiet.startSession (p : Port) (n : Nat) (s : State) : Quiet s (startSession p n s) := .setPort (.refl _)

theorem Quiet.applyAlertFrames (p : Port) (was now : Bool) (s : State) : Quiet s (applyAlertFrames p was now s) := by
  unfold Machine.applyAlertFrames
  split
  · exact .withdraw s p _
  · exact .refl s

theorem Quiet.applyNotices (p : Port) (ses : Session) (was now : Bool) (s : State) :
    Quiet s (applyNotices p ses was now s) := by
  unfold Machine.applyNotices
  split
  · exact (Quiet.setSession s p _).trans (.queueNotice p _)
  · split
    · exact (Quiet.withdraw s p _).trans (.setSession _ p _)
    · exact .setSession s p _

theorem Quiet.setSessionOptionsBlock (p : Port) (bs : List Byte) (s : State) :
    Quiet s (setSessionOptionsBlock p bs s).1 := by
  unfold Machine.setSessionOptionsBlock
  split
  · exact .refl s
  · exact .refl s
  · exact (Quiet.applyAlertFrames p _ _ s).trans (.applyNotices p _ _ _ _)

theorem Quiet.clearExceptionBlock (bs : List Byte) (s : State) : Quiet s (clearExceptionBlock bs s).1 := by
  unfold Machine.clearExceptionBlock
  split
  · exact .refl s
  · next which _ =>
    have hcleared : Quiet s { s with exceptions := s.exceptions.clear which } := .of_ports rfl rfl rfl
    dsimp only
    split
    · exact hcleared.trans ((Quiet.forgetNotices .a _).trans (.forgetNotices .b _))
    · exact hcleared

theorem Quiet.withClaim {p : Port} {s : State} {a : Answer} (h : Quiet s a.1) : Quiet s (withClaim p s a).1 := by
  unfold Machine.withClaim
  split
  · exact h
  · exact .refl s

theorem Quiet.editStaged (edit : Bank → Bank) (s : State) : Quiet s (editStaged edit s).1 := by
  unfold Machine.editStaged
  split
  · exact .refl s
  · exact .of_ports rfl rfl rfl

theorem Quiet.readRecordsBlock (bs : List Byte) (s : State) : Quiet s (readRecordsBlock bs s).1 := by
  unfold Machine.readRecordsBlock
  repeat' split
  all_goals exact .refl s

theorem Quiet.listIncidentsBlock (bs : List Byte) (s : State) : Quiet s (listIncidentsBlock bs s).1 := by
  unfold Machine.listIncidentsBlock
  split <;> exact .refl s

theorem Quiet.readRuleBlock (bs : List Byte) (s : State) : Quiet s (readRuleBlock bs s).1 := by
  unfold Machine.readRuleBlock
  split <;> exact .refl s

theorem Quiet.claimBlock (p : Port) (bs : List Byte) (s : State) : Quiet s (claimBlock p bs s).1 := by
  unfold Machine.claimBlock
  split
  · exact .of_ports rfl rfl rfl
  · split <;> exact .refl s

theorem Quiet.releaseBlock (p : Port) (bs : List Byte) (s : State) : Quiet s (releaseBlock p bs s).1 := by
  unfold Machine.releaseBlock
  split
  · exact .of_ports rfl rfl rfl
  · exact .refl s

theorem Quiet.restartBlock (p : Port) (bs : List Byte) (s : State) : Quiet s (restartBlock p bs s).1 := by
  refine .withClaim ?_
  split
  · exact .refl s
  · exact .of_ports rfl rfl rfl

theorem Quiet.takeSnapshotBlock (p : Port) (bs : List Byte) (s : State) : Quiet s (takeSnapshotBlock p bs s).1 := by
  unfold Machine.takeSnapshotBlock
  split
  · exact .of_ports rfl rfl rfl
  · exact .refl s

theorem Quiet.writeLineRuleBlock (p : Port) (bs : List Byte) (s : State) : Quiet s (writeLineRuleBlock p bs s).1 := by
  refine .withClaim ?_
  split
  · exact .refl s
  · exact .editStaged _ s

theorem Quiet.writeGroupRuleBlock (p : Port) (bs : List Byte) (s : State) :
    Quiet s (writeGroupRuleBlock p bs s).1 := by
  refine .withClaim ?_
  split
  · exact .refl s
  · exact .editStaged _ s

theorem Quiet.writeGlobalRuleBlock (p : Port) (bs : List Byte) (s : State) :
    Quiet s (writeGlobalRuleBlock p bs s).1 := by
  refine .withClaim ?_
  split
  · exact .refl s
  · exact .editStaged _ s

theorem Quiet.switchRulesBlock (p : Port) (bs : List Byte) (s : State) : Quiet s (switchRulesBlock p bs s).1 := by
  refine .withClaim ?_
  split
  · exact .refl s
  · exact .of_ports rfl rfl rfl

theorem Quiet.abortSwitchBlock (p : Port) (bs : List Byte) (s : State) : Quiet s (abortSwitchBlock p bs s).1 := by
  refine .withClaim ?_
  split
  · exact (Quiet.endSwitch _ s).trans (.offerSwitchDone _)
  · exact .refl s
  · exact .refl s

theorem Quiet.clearAlertBlock (bs : List Byte) (s : State) : Quiet s (clearAlertBlock bs s).1 := by
  unfold Machine.clearAlertBlock
  split
  · exact .refl s
  · split
    · exact .of_ports rfl rfl rfl
    · exact .refl s

/-! ### Invariants of the journal and the readers -/

/-- What the journal and the readers are kept in by every operation in which they take part, and by every quiet one. -/
structure StepInvariant (P : State → Prop) : Prop where
  quiet : ∀ {s t}, P s → Quiet s t → P t
  append : ∀ {s}, P s → ∀ o : Offer, o.body.isMarker = false → P (append o s).1
  endSession : ∀ {s}, P s → ∀ p, P (endSession p s)
  endReader : ∀ {s}, P s → ∀ p, P (endReader p s)
  clearJournal : ∀ {s}, P s → P (clearJournal s)
  setMode : ∀ {s}, P s → ∀ mode, P (setMode mode s).1
  subscribe : ∀ {s}, P s → ∀ p bs, P (subscribeBlock p bs s).1
  resume : ∀ {s}, P s → ∀ p bs, P (resumeBlock p bs s).1
  ack : ∀ {s}, P s → ∀ p bs, P (ackBlock p bs s).1
  queueRecords : ∀ {s t}, P s → ∀ p, execQueueRecordsFrame p s = .next t → P t
  queueGap : ∀ {s t}, P s → ∀ p, execQueueGapFrame p s = .next t → P t
  retransmit : ∀ {s t}, P s → ∀ p, execRetransmitTimerExpiry p s = .next t → P t
  reset : ∀ {s}, P s → ∀ cause straps, P (resetPart cause straps s)

namespace StepInvariant
variable {P : State → Prop} (hI : StepInvariant P)
include hI

/-! ### Blocks that offer records -/

theorem offer {s : State} (h : P s) (o : Offer) (ho : o.body.isMarker = false) : P (offer o s) := hI.append h o ho

theorem closeSlot {s : State} (h : P s) (reason : CloseReason) (i : SlotNo) (x : Incident) :
    P (closeSlot reason i x s) := by
  refine hI.offer (hI.quiet h ?_) _ rfl
  exact .of_ports rfl rfl rfl

theorem closeAllIncidents {s : State} (h : P s) : P (closeAllIncidents s).1 := by
  refine List.foldlRecOn (motive := fun acc : State × Nat => P acc.1) _ _ h fun acc hacc i _ => ?_
  unfold closeForSwitch
  split
  · exact hacc
  · exact hI.closeSlot hacc _ i _

theorem keepInHand {r : State × EntryInHand} (h : P r.1) : P (keepInHand r) :=
  hI.quiet h (.of_ports (by simp) (by simp) (by simp))

theorem buildRecord {s : State} (h : P s) (e : EntryInHand) (r : RecordToBuild) (rest : List RecordToBuild) :
    P (buildRecord e r rest s).1 := by
  cases r with
  | lineChange => exact hI.offer (hI.quiet h (.callFor _ _ s)) _ rfl
  | incidentClose c => exact hI.offer h _ rfl
  | chatterOn n => exact hI.quiet (hI.offer h _ rfl) (.of_ports rfl rfl rfl)

theorem carryOn {s : State} (h : P s) (e : EntryInHand) : P (carryOn e s) := by
  unfold Machine.carryOn
  split
  · exact h
  · exact hI.keepInHand (hI.buildRecord h e _ _)

theorem buildSnapshot {s : State} (h : P s) (m : MarkerInHand) : P (buildSnapshot m s) := hI.offer h _ rfl

theorem classifyRelease {s : State} (h : P s) (rule : LineRule) (e : ReleaseEntry) : P (classifyRelease rule e s) := by
  unfold Machine.classifyRelease
  dsimp only
  split
  · refine hI.offer (hI.quiet h ?_) _ rfl
    exact .of_ports rfl rfl rfl
  · refine hI.keepInHand (hI.quiet (hI.offer (hI.quiet h ?_) _ ?_) (.of_ports rfl rfl rfl))
    · exact .of_ports rfl rfl rfl
    · rfl

theorem classify {s : State} (h : P s) (e : FifoEntry) : P (classify e s) := by
  unfold Machine.classify
  split
  · refine hI.carryOn (hI.quiet h ?_) _
    exact .of_ports rfl rfl rfl
  · exact hI.classifyRelease h _ _
  · unfold classifyMarker
    dsimp only
    split
    · exact hI.buildSnapshot h _
    · exact hI.quiet h (.of_ports rfl rfl rfl)

theorem reportQuality {s : State} (h : P s) (old : Quality) : P (reportQuality old s) := by
  unfold Machine.reportQuality
  split
  · exact h
  · dsimp only
    split
    · exact hI.quiet (hI.offer h _ rfl) (.raise _ _ _)
    · exact hI.offer h _ rfl

theorem reportStep {s : State} (h : P s) (correction : Option Int) : P (reportStep correction s) := by
  unfold Machine.reportStep
  split
  · exact h
  · split
    · exact hI.offer h _ rfl
    · exact h

theorem takePulse {s : State} (h : P s) : P (takePulse s) := by
  refine hI.reportQuality (hI.reportStep (hI.quiet h ?_) _) _
  exact .of_ports rfl rfl rfl

theorem takeSwitchInstant {s : State} (h : P s) : P (takeSwitchInstant s) := by
  have happended : P (Machine.append
      { body := .rulesetSwitch s.rules.generation (nextSkippingZero s.rules.generation)
          (Machine.closeAllIncidents s).2 }
      (Machine.closeAllIncidents s).1).1 := hI.append (hI.closeAllIncidents h) _ rfl
  have hinstalled : P (installRules s).1 :=
    hI.quiet happended (.of_ports (by simp [installRules]) (by simp [installRules]) (by simp [installRules]))
  exact hI.quiet hinstalled (((Quiet.endSwitch _ _).trans (.offerSwitchDone _)).trans (.admitHeld _))

theorem loseSession {s : State} (h : P s) (p : Port) : P (loseSession p s) := by
  refine hI.quiet (hI.endSession h p) (Quiet.trans (.setPort ?_) (.raise _ _ _))
  exact .refl _

/-! ### Requests -/

/-- A request step keeps what its block keeps (R157). -/
theorem request {s : State} (h : P s) {p : Port} {k : RequestKind} {block : List Byte → State → Answer}
    (hb : ∀ bs t, P t → P (block bs t).1) : P (request p k block s) :=
  request_induct (fun _ ht => hI.quiet ht (.putInHand _ p)) (fun _ _ ht => hI.quiet ht (.queueFrame _ p rfl rfl))
    (fun _ r ht => hI.quiet ht (.answer _ p r)) hb h

/-- A request whose block is quiet. -/
theorem request_quiet {s : State} (h : P s) {p : Port} {k : RequestKind} {block : List Byte → State → Answer}
    (hb : ∀ bs t, Quiet t (block bs t).1) : P (Machine.request p k block s) :=
  hI.request h fun bs t ht => hI.quiet ht (hb bs t)

omit hI in
/-- A block that needs the claim keeps what it keeps with the claim (R165). -/
theorem withClaim {s : State} (h : P s) {p : Port} {a : Answer} (ha : P a.1) : P (withClaim p s a).1 := by
  unfold Machine.withClaim
  split
  · exact ha
  · exact h

/-! ### Blocks of the requests -/

theorem openBlock {s : State} (h : P s) (p : Port) (bs : List Byte) : P (openBlock p bs s).1 := by
  unfold Machine.openBlock
  split
  · exact h
  · split
    · exact h
    · exact hI.quiet (hI.endSession h p) (.startSession p _ _)

theorem setJournalModeBlock {s : State} (h : P s) (p : Port) (bs : List Byte) : P (setJournalModeBlock p bs s).1 := by
  refine withClaim h ?_
  split
  · exact h
  · exact hI.setMode h _

theorem dropReaderBlock {s : State} (h : P s) (p : Port) (bs : List Byte) : P (dropReaderBlock p bs s).1 := by
  refine withClaim h ?_
  split
  · exact h
  · exact hI.endReader h _

theorem closeIncidentBlock {s : State} (h : P s) (p : Port) (bs : List Byte) : P (closeIncidentBlock p bs s).1 := by
  refine withClaim h ?_
  split
  · exact h
  · split
    · exact h
    · exact hI.closeSlot h _ _ _

theorem setTimeBlock {s : State} (h : P s) (p : Port) (bs : List Byte) : P (setTimeBlock p bs s).1 := by
  refine withClaim h ?_
  split
  · exact h
  · refine hI.reportQuality (hI.offer (hI.quiet h ?_) _ rfl) _
    exact .of_ports rfl rfl rfl

theorem setTimeOptionsBlock {s : State} (h : P s) (p : Port) (bs : List Byte) : P (setTimeOptionsBlock p bs s).1 := by
  refine withClaim h ?_
  split
  · exact h
  · split
    · exact h
    · refine hI.reportQuality (hI.quiet h ?_) _
      exact .of_ports rfl rfl rfl

/-! ### The commands -/

/-- Every command keeps the invariant. -/
theorem exec {c : Instr} {s t : State} (h : P s) (ht : exec c s = .next t) : P t := by
  cases c
  case queueRecordsFrame p => exact hI.queueRecords h p ht
  case queueGapFrame p => exact hI.queueGap h p ht
  case retransmitTimerExpiry p => exact hI.retransmit h p ht
  all_goals obtain rfl := Host.Outcome.next.inj ht
  case powerOnReset straps => exact hI.reset h _ straps
  case pinReset straps => exact hI.reset h _ straps
  case restartTimerExpiry straps =>
    split
    · exact h
    · split
      · exact hI.reset h _ straps
      · exact h
  case receiveByte p b stopLow =>
    cases p with
    | a =>
      dsimp only
      split
      · exact hI.quiet h (.framingError .a s)
      · exact hI.quiet h (.feed .a _ s)
    | b => exact hI.quiet h (((Quiet.readyPortB s).trans (.clockOut _)).trans (.feed .b _ _))
  case selectionEnd => exact hI.quiet h (.of_ports rfl rfl rfl)
  case gapTimerExpiry p =>
    split
    · exact h
    · split
      · exact hI.quiet h (.discardCollection p _ s)
      · exact h
  case transmitFrameBegin p => exact hI.quiet h (.beginFrame p s)
  case transmitFrameComplete p straps =>
    split
    · exact h
    · split
      · have hsent : P (s.setPort p { s.ports.get p with sending := none }) := hI.quiet h (.setPort (.refl _))
        unfold restartAfter
        split
        · exact hsent
        · split
          · exact hI.reset hsent _ straps
          · exact hsent
      · exact h
  case unknownKindRequest p =>
    exact takeRequest_induct (fun _ ht => hI.quiet ht (.putInHand _ p))
      (fun _ _ ht => hI.quiet ht (.queueFrame _ p rfl rfl)) (fun _ r ht => hI.quiet ht (.answer _ p r))
      (fun _ _ ht => ht) h
  case identify p => exact hI.request h fun _ _ ht => ht
  case openSession p => exact hI.request h fun bs _ ht => hI.openBlock ht p bs
  case closeSession p => exact hI.request h fun _ _ ht => hI.endSession ht p
  case ping p => exact hI.request h fun _ _ ht => ht
  case claim p => exact hI.request_quiet h (.claimBlock p)
  case releaseClaim p => exact hI.request_quiet h (.releaseBlock p)
  case restart p => exact hI.request_quiet h (.restartBlock p)
  case sessionTimerExpiry p =>
    split
    · exact h
    · split
      · exact hI.loseSession h p
      · exact h
  case readRecords p => exact hI.request_quiet h .readRecordsBlock
  case getJournalStatus p => exact hI.request h fun _ _ ht => ht
  case clearJournal p => exact hI.request h fun _ _ ht => withClaim ht (hI.clearJournal ht)
  case setJournalMode p => exact hI.request h fun bs _ ht => hI.setJournalModeBlock ht p bs
  case subscribe p => exact hI.request h fun bs _ ht => hI.subscribe ht p bs
  case resume p => exact hI.request h fun bs _ ht => hI.resume ht p bs
  case unsubscribe p => exact hI.request h fun _ _ ht => hI.endReader ht p
  case ack p => exact hI.request h fun bs _ ht => hI.ack ht p bs
  case dropReader p => exact hI.request h fun bs _ ht => hI.dropReaderBlock ht p bs
  case listIncidents p => exact hI.request_quiet h .listIncidentsBlock
  case closeIncident p =>
    split
    · exact h
    · exact hI.request h fun bs _ ht => hI.closeIncidentBlock ht p bs
  case quietTimerExpiry slot =>
    split
    · exact h
    · split
      · exact hI.closeSlot h _ slot _
      · exact h
  case durationTimerExpiry slot =>
    split
    · exact h
    · split
      · exact hI.closeSlot h _ slot _
      · exact h
  case sampleInstant pins =>
    split
    · exact hI.quiet h (.sampleAll pins s)
    · exact h
  case chatterWindowExpiry i =>
    split
    · exact hI.quiet h (.setLine s i _)
    · exact h
  case releaseTimerExpiry i =>
    split
    · split
      · exact hI.quiet h (.releaseLine i _ s)
      · exact h
    all_goals exact h
  case heldEntryAdmission => exact hI.quiet h (.admitHeld s)
  case getLines p => exact hI.request h fun _ _ ht => ht
  case takeSnapshot p => exact hI.request_quiet h (.takeSnapshotBlock p)
  case classifierTakeEntry =>
    split
    · refine hI.carryOn (hI.quiet h ?_) _
      exact .of_ports rfl rfl rfl
    · exact h
    · exact h
    · refine hI.classify (hI.quiet h (Quiet.trans ?_ (.admitHeld _))) _
      exact .of_ports rfl rfl rfl
  case deferredSnapshotBuild =>
    split
    · exact h
    · exact h
    · split
      · refine hI.buildSnapshot (hI.quiet h ?_) _
        exact .of_ports rfl rfl rfl
      · exact h
  case syncEdge edge =>
    split
    · exact hI.takePulse h
    · exact h
  case missingPulseTimerExpiry =>
    split
    · refine hI.reportQuality (hI.quiet h ?_) _
      exact .of_ports rfl rfl rfl
    · exact h
  case holdoverTimerExpiry =>
    refine hI.reportQuality (hI.quiet h ?_) _
    exact .of_ports rfl rfl rfl
  case getTime p => exact hI.request h fun _ _ ht => ht
  case setTime p => exact hI.request h fun bs _ ht => hI.setTimeBlock ht p bs
  case setTimeOptions p => exact hI.request h fun bs _ ht => hI.setTimeOptionsBlock ht p bs
  case readRule p => exact hI.request_quiet h .readRuleBlock
  case writeLineRule p => exact hI.request_quiet h (.writeLineRuleBlock p)
  case writeGroupRule p => exact hI.request_quiet h (.writeGroupRuleBlock p)
  case writeGlobalRule p => exact hI.request_quiet h (.writeGlobalRuleBlock p)
  case copyActiveToStaged p => exact hI.request_quiet h fun _ t => .withClaim (.editStaged _ t)
  case switchRules p => exact hI.request_quiet h (.switchRulesBlock p)
  case validationCompletion syncRead =>
    split
    · split
      · exact hI.quiet h (.rejectSwitch _ s)
      · exact hI.quiet h (.of_ports rfl rfl rfl)
    all_goals exact h
  case switchInstant =>
    split
    · exact hI.takeSwitchInstant h
    · exact h
  case abortSwitch p => exact hI.request_quiet h (.abortSwitchBlock p)
  case getSwitchStatus p => exact hI.request h fun _ _ ht => ht
  case clearAlert p => exact hI.request_quiet h .clearAlertBlock
  case setSessionOptions p => exact hI.request_quiet h (.setSessionOptionsBlock p)
  case getExceptions p => exact hI.request h fun _ _ ht => ht
  case clearException p => exact hI.request_quiet h .clearExceptionBlock

/-- Every step keeps the invariant: the passing of a microsecond is quiet. -/
theorem step {s t : State} (h : P s) (ht : step s = .next t) : P t := by
  unfold Machine.step at ht
  split at ht
  · obtain rfl := Host.Outcome.next.inj ht
    exact hI.quiet h (.of_ports rfl rfl rfl)
  · next c rest _ =>
    have hrest : Quiet s { s with pending := rest } := .of_ports rfl rfl rfl
    exact hI.exec (hI.quiet h hrest) ht


end StepInvariant

/-! ### The journal -/

theorem Journal.Ok.endReader {s : State} (h : s.journal.Ok) (p : Port) : (endReader p s).journal.Ok := by
  unfold Machine.endReader
  split
  · exact h
  · exact Journal.Ok.evaluateRelease h

/-- Ending a session touches the journal by release alone (R36, R164). -/
theorem Journal.Ok.endSession {s : State} (h : s.journal.Ok) (p : Port) : (endSession p s).journal.Ok := by
  have hw : (withdrawForEnd p s).journal.Ok := by rwa [withdrawForEnd_journal]
  have hend : (readerSessionEnd p (withdrawForEnd p s)).journal.Ok := by
    unfold readerSessionEnd
    split
    · exact hw
    · split
      · exact hw
      all_goals
        split
        · exact hw
        · exact Journal.Ok.evaluateRelease hw
  unfold Machine.endSession
  split
  · exact h
  · rw [State.setSession, State.setPort_journal]
    split <;> exact hend

theorem Journal.Ok.subscribeBlock {s : State} (h : s.journal.Ok) (p : Port) (bs : List Byte) :
    (subscribeBlock p bs s).1.journal.Ok := by
  unfold Machine.subscribeBlock
  split
  · exact h
  · split
    · exact h
    · exact Journal.Ok.evaluateRelease h

theorem Journal.Ok.ackBlock {s : State} (h : s.journal.Ok) (p : Port) (bs : List Byte) :
    (ackBlock p bs s).1.journal.Ok := by
  have hack (r : Subscription) (n : Seq) : (ackReader p r n s).1.journal.Ok := by
    unfold ackReader
    repeat' split
    · exact h
    · exact h
    · exact h
    · exact Journal.Ok.evaluateRelease h
  unfold Machine.ackBlock
  repeat' split
  · exact h
  · exact h
  · exact hack _ _
  · exact hack _ _

theorem resumeBlock_journal (p : Port) (bs : List Byte) (s : State) : (resumeBlock p bs s).1.journal = s.journal := by
  unfold resumeBlock
  dsimp only
  split <;> simp [refuse]

theorem execQueueRecordsFrame_journal {p : Port} {s t : State} (ht : execQueueRecordsFrame p s = .next t) :
    t.journal = s.journal := by
  obtain rfl := Host.Outcome.next.inj ht
  split
  · rfl
  · dsimp only
    split <;> rfl

theorem execQueueGapFrame_journal {p : Port} {s t : State} (ht : execQueueGapFrame p s = .next t) :
    t.journal = s.journal := by
  obtain rfl := Host.Outcome.next.inj ht
  repeat' split
  all_goals rfl

theorem execRetransmitTimerExpiry_journal {p : Port} {s t : State} (ht : execRetransmitTimerExpiry p s = .next t) :
    t.journal = s.journal := by
  obtain rfl := Host.Outcome.next.inj ht
  repeat' split
  · rfl
  · simp
  · rfl

/-! ### The two invariants -/

/-- The journal's order is kept by every operation that takes part in it (R1, R5, R15 to R18). -/
theorem stepInvariant_journal : StepInvariant fun s => s.journal.Ok where
  quiet h hq := by rwa [hq.journal]
  append h _ ho := h.append ho
  endSession h p := h.endSession p
  endReader h p := h.endReader p
  clearJournal _ := .clearJournal _
  setMode h mode := h.setMode mode
  subscribe h p bs := h.subscribeBlock p bs
  resume h p bs := by rwa [resumeBlock_journal]
  ack h p bs := h.ackBlock p bs
  queueRecords h p ht := by rwa [execQueueRecordsFrame_journal ht]
  queueGap h p ht := by rwa [execQueueGapFrame_journal ht]
  retransmit h p ht := by rwa [execRetransmitTimerExpiry_journal ht]
  reset _ cause straps := .reset cause _

/-- The readers' bounds, with the journal's order, are kept by every operation that takes part in them (R26 to R42). -/
theorem stepInvariant_readers : StepInvariant fun s => s.journal.Ok ∧ s.ReadersOk where
  quiet h hq := ⟨stepInvariant_journal.quiet h.1 hq, h.2.of_quiet hq⟩
  append h o ho := ⟨h.1.append ho, h.2.append h.1 o⟩
  endSession h p := ⟨h.1.endSession p, h.2.endSession h.1 p⟩
  endReader h p := ⟨h.1.endReader p, h.2.endReader h.1 p⟩
  clearJournal h := ⟨.clearJournal _, h.2.clearJournal⟩
  setMode h mode := ⟨h.1.setMode mode, h.2.setMode mode⟩
  subscribe h p bs := ⟨h.1.subscribeBlock p bs, h.2.subscribeBlock h.1 p bs⟩
  resume h p bs := ⟨stepInvariant_journal.resume h.1 p bs, h.2.resumeBlock h.1 p bs⟩
  ack h p bs := ⟨h.1.ackBlock p bs, h.2.ackBlock h.1 p bs⟩
  queueRecords h p ht := ⟨stepInvariant_journal.queueRecords h.1 p ht, h.2.execQueueRecordsFrame h.1 ht⟩
  queueGap h p ht := ⟨stepInvariant_journal.queueGap h.1 p ht, h.2.execQueueGapFrame ht⟩
  retransmit h p ht := ⟨stepInvariant_journal.retransmit h.1 p ht, h.2.execRetransmitTimerExpiry h.1 ht⟩
  reset _ cause straps := ⟨.reset cause _, .resetPart cause straps _⟩

/-- Settles O52: the journal's order is an invariant of its operations, so every step keeps it. -/
theorem stepKeepsJournal : Obligations.StepKeepsJournal := fun _ _ h ht => stepInvariant_journal.step h ht

/-- Settles O57: with the journal's order the readers' bounds are an invariant of the operations, so every step keeps
them. -/
theorem stepKeepsReaders : Obligations.StepKeepsReaders :=
  fun _ _ hJ h ht => (stepInvariant_readers.step ⟨hJ, h⟩ ht).2

end Sys2Proof.Machine
end

section
/-!
PROOFS. The journal's operations as the statements of chapter 1 describe them: an append taken or refused (R5, R6, R15
to R19), the oldest record overwritten (R30, R41), release (R18, R20), and the journal's requests (R21 to R24).
-/
namespace Sys2Proof.Machine

/-! ### The alert an append hands over (R6) -/

/-- A record that is no LINE_CHANGE with the ALERT flag carries no alert (R6). -/
theorem Offer.alertInfo_eq_none {o : Offer} {s : State} {n : Seq} {refused : Bool}
    (h : ∀ line level cls id, o.body = .lineChange line level cls id → o.flags.alert = false) :
    o.alertInfo s n refused = none := by
  unfold Offer.alertInfo
  split
  · next hb => rw [h _ _ _ _ hb, if_neg Bool.false_ne_true]
  · rfl

/-- A LINE_CHANGE with the ALERT flag carries an alert (R6). -/
theorem Offer.alertInfo_eq_some {o : Offer} {line : LineNo} {level : Level} {cls : ClassNo} {id : Option IncidentId}
    (hb : o.body = .lineChange line level cls id) (ha : o.flags.alert = true) (s : State) (n : Seq) (refused : Bool) :
    o.alertInfo s n refused = some ⟨n, line, level, cls, o.stampIn s, refused⟩ := by
  simp only [Offer.alertInfo, hb, ha, if_true]

/-- What a refused record hands over, and whether it carries an alert at all, by its body and its ALERT flag (R6). -/
theorem Offer.alertInfo_refused (o : Offer) (s : State) (n : Seq) (t : State) :
    (o.alertInfo s n true).isSome = (match o.body with
      | .lineChange _ _ _ _ => o.flags.alert
      | _ => false) ∧
    handAlert (o.alertInfo s n true) t = (match o.body with
      | .lineChange line level cls _ =>
        if o.flags.alert then takeAlert ⟨n, line, level, cls, o.stampIn s, true⟩ t else t
      | _ => t) := by
  unfold Offer.alertInfo
  cases o.body with
  | lineChange line level cls id => cases o.flags.alert <;> exact ⟨rfl, rfl⟩
  | _ => exact ⟨rfl, rfl⟩

/-! ### An append that finds room (R5, R15, R19) -/

/-- A record accepted joins the journal, and the mark that the latest alert has aged is set anew (R5, R142). -/
theorem acceptRecord_eq (b : RecordBody) (t : Stamp) (f : RecordFlags) (s : State) :
    ∃ aged, acceptRecord b t f s = { s with
        journal := ⟨s.journal.held ++ [⟨s.journal.next, t, s.rules.generation, f, b⟩], s.journal.next + 1,
          s.journal.mode⟩
        alert := { s.alert with aged := aged } } ∧
      (s.alert.latest = none → aged = s.alert.aged) ∧
      ∀ n, s.alert.latest = some n →
        (aged = true ↔ s.alert.aged = true ∨ 2064 < (s.journal.next + 1 - n).toNat) :=
  ageAlert_eq _

/-- An append that finds room accepts the record and answers its number (R5, R15, R19). -/
theorem append_of_room {o : Offer} {s : State} (h : (s.journal.mode = .halt ∧ s.journal.held.length < 2047) ∨
    (s.journal.mode = .wrap ∧ s.journal.held.length < 2048)) :
    append o s = (acceptOffer o s, some s.journal.next) := by
  unfold append
  rcases h with ⟨hmode, hlen⟩ | ⟨hmode, hlen⟩
  · simp only [hmode]
    exact if_pos hlen
  · simp only [hmode]
    rw [if_pos hlen]

/-- Settles O17: an append that finds room accepts the record; the aging that comes with it marks the latest alert, and
an alert handed over replaces it. -/
theorem appendAccepts : Obligations.AppendAccepts := by
  intro o s hroom
  obtain ⟨aged, haccept, hnone, hsome⟩ := acceptRecord_eq o.body (o.stampIn s) o.flags s
  rw [append_of_room hroom, acceptOffer, haccept]
  constructor
  · intro hquiet
    rw [Offer.alertInfo_eq_none hquiet]
    exact ⟨aged, rfl, hnone, hsome⟩
  · intro line level cls id hb ha
    rw [Offer.alertInfo_eq_some hb ha]
    rfl

/-! ### A refused append (R15 to R17) -/

/-- In HALT mode the 2,048th place is the marker's (R15, R16). -/
theorem append_raises {o : Offer} {s : State} (hmode : s.journal.mode = .halt) (hlen : s.journal.held.length = 2047)
    (hopen : s.journal.markerOpen = false) : append o s = (raiseMarker o s, none) := by
  unfold append
  simp only [hmode]
  rw [if_neg (by rw [hlen]; decide), if_pos ⟨hlen, hopen⟩]

/-- In HALT mode a full journal counts the record into its marker (R17). -/
theorem append_counts {o : Offer} {s : State} (hmode : s.journal.mode = .halt) (hlen : s.journal.held.length = 2048) :
    append o s = (countRefused o s, none) := by
  unfold append
  simp only [hmode]
  rw [if_neg (by rw [hlen]; decide), if_neg (by rw [hlen]; simp)]

/-- An open marker takes one more refused record into its counts (R17). -/
theorem Record.countRefused_of_open {m : Record} {c : MarkerCounts} (hb : m.body = .overflow c)
    (ho : m.flags.markerOpen = true) (stamp : Stamp) (alerted : Bool) (cls : Option ClassNo) :
    m.countRefused stamp alerted cls = { m with body := .overflow (c.count stamp alerted cls) } := by
  unfold Record.countRefused
  rw [if_pos (by simp [Record.isOpenMarker_eq, hb, ho, RecordBody.isMarker])]
  simp only [hb]

/-- Settles O18: a refused record raises the marker, or is counted into the open one. -/
theorem appendRefuses : Obligations.AppendRefuses := by
  intro o s hmode
  constructor
  · intro hlen hopen
    obtain ⟨hsome, -⟩ := o.alertInfo_refused s s.journal.next s
    obtain ⟨aged, haccept, -⟩ := acceptRecord_eq (.overflow (.start (o.stampIn s)
      (o.alertInfo s s.journal.next true).isSome o.body.lineClass)) s.stampNow { markerOpen := true } s
    refine ⟨aged, ?_⟩
    rw [append_raises hmode hlen hopen, raiseMarker, haccept, (o.alertInfo_refused s s.journal.next _).2, hsome, hmode]
    rfl
  · intro pre m c hheld hlen hb ho
    obtain ⟨hsome, -⟩ := o.alertInfo_refused s (s.journal.next - 1) s
    rw [append_counts hmode (by rw [hheld, List.length_append, hlen]; rfl), countRefused,
      (o.alertInfo_refused s (s.journal.next - 1) _).2, hsome, hheld, mapLast_append, Record.countRefused_of_open hb ho]
    rfl

/-! ### The oldest record overwritten (R19, R30, R41) -/

/-- In WRAP mode a full journal gives up its oldest record and then accepts (R19). -/
theorem append_overwrites {o : Offer} {s : State} (hmode : s.journal.mode = .wrap)
    (hlen : s.journal.held.length = 2048) : append o s = append o (overwriteOldest s) := by
  rw [append_of_room (s := overwriteOldest s) (.inr ?_)]
  · unfold append
    simp only [hmode]
    rw [if_neg (by rw [hlen]; decide)]
  · simp [hmode, hlen]

/-- The timer settles by the points alone: it stops when the send point stands just above the ack point (R31). -/
theorem Subscription.settleTimer_eq_ite (r : Subscription) :
    r.settleTimer = { r with timer := if r.send = r.ack + 1 then none else r.timer } := by
  by_cases h : r.send = r.ack + 1
  · rw [if_pos h, Subscription.settleTimer_of_inFlight (Subscription.inFlight_of_send h)]
  · have hflight : r.inFlight ≠ 0 := by
      simp only [Subscription.inFlight]
      bv_omega
    rw [if_neg h, Subscription.settleTimer, if_neg hflight]

/-- A record at or below a reader's ack point is none that it loses (R41). -/
theorem loseRecord_of_acked {n : Seq} {p : Port} {s : State} {r : Subscription} (hr : s.readers.get p = some r)
    (h : (s.journal.next - r.ack).toNat ≤ (s.journal.next - n).toNat) : loseRecord n p s = s := by
  unfold loseRecord
  simp only [hr]
  exact if_pos (decide_eq_true h)

/-- A reader that loses a record: its waiting RECORDS frame is withdrawn, its points move, and the loss is raised
(R41). -/
theorem loseRecord_of_lost {n : Seq} {p : Port} {s : State} {r x : Subscription} (hr : s.readers.get p = some r)
    (h : (s.journal.next - n).toNat < (s.journal.next - r.ack).toNat)
    (hx : (withdrawRecords p s).readers.get p = some x) :
    loseRecord n p s = raise .recordsOverwritten (.port p) ((withdrawRecords p s).setReader p (some
      { x with
        ack := n
        send := if (s.journal.next - n).toNat ≤ (s.journal.next - x.send).toNat then n + 1 else x.send
        gap := some ((x.gap.map Prod.fst).getD n, n) }.settleTimer)) := by
  have hbelow : ¬ atOrAbove s.journal.next r.ack n = true :=
    fun ha => absurd (of_decide_eq_true ha) (Nat.not_le_of_lt h)
  unfold loseRecord
  simp only [hr]
  rw [if_neg hbelow]
  simp only [hx, withdrawRecords_frame, atOrAbove, distance, decide_eq_true_eq]
  cases x.gap <;> rfl

/-- The waiting RECORDS frame of a reader, alone of its kind: it leaves the queue, and the send point goes back to its
first record (R30). -/
theorem withdrawRecords_of_waiting {p : Port} {s : State} {r : Subscription} {pre post : List Frame} {x : Record}
    {xs : List Record} (hr : s.readers.get p = some r)
    (hw : (s.ports.get p).waiting = pre ++ .records (x :: xs) :: post)
    (hone : ∀ rs, .records rs ∉ pre ∧ .records rs ∉ post) :
    withdrawRecords p s = (s.setPort p { s.ports.get p with waiting := pre ++ post }).setReader p
      (some { r with send := x.seq }.settleTimer) := by
  have hfirst : waitingFirst (s.ports.get p).waiting = some x.seq := by
    have hpre := waitingFirst_eq_none fun rs => (hone rs).1
    rw [waitingFirst] at hpre
    rw [hw, waitingFirst, List.findSome?_append, hpre]
    rfl
  have hkept {l : List Frame} (hl : ∀ rs, Frame.records rs ∉ l) : l.filter (fun f => !f.isRecords) = l := by
    rw [List.filter_eq_self]
    intro f hf
    cases f with
    | records rs => exact absurd hf (hl rs)
    | _ => rfl
  have hrest : (s.ports.get p).waiting.filter (fun f => !f.isRecords) = pre ++ post := by
    rw [hw, List.filter_append, hkept fun rs => (hone rs).1, List.filter_cons_of_neg (by simp [Frame.isRecords]),
      hkept fun rs => (hone rs).2]
  unfold withdrawRecords
  rw [hfirst, hr]
  simp only [State.withdraw, hrest]

/-- Settles O19: the overwriting of the oldest record, the loss it is to a reader, and the withdrawal that the loss
begins with. -/
theorem oldestRecordIsOverwritten : Obligations.OldestRecordIsOverwritten := by
  refine ⟨fun o s r rest hmode hheld hlen => ?_, fun n p s => ⟨fun hr => ?_, fun r hr h => ?_, fun r hr h => ?_⟩,
    fun p s => ⟨withdrawRecords_eq_self, fun r pre x xs post hr hw hone => ?_⟩⟩
  · have hover : overwriteOldest s = loseRecord r.seq .b (loseRecord r.seq .a
        { s with journal := { s.journal with held := rest } }) := by
      unfold overwriteOldest
      simp only [hheld]
    rw [append_overwrites hmode (by rw [hheld, List.length_cons, hlen]), hover]
  · simp only [loseRecord, hr]
  · exact loseRecord_of_acked hr h
  · obtain ⟨x, hx, -⟩ := reader_withdrawRecords hr
    refine ⟨x, _, hx, rfl, ?_⟩
    rw [loseRecord_of_lost hr h hx, Subscription.settleTimer_eq_ite]
  · rw [withdrawRecords_of_waiting hr hw hone, Subscription.settleTimer_eq_ite]

/-! ### Release (R18, R20) -/

/-- The ack point of a retaining reader: one that is not DORMANT or keeps its retain option (R20). -/
theorem retainedAck_eq_some_iff {reader : Option Subscription} {a : Seq} : retainedAck reader = some a ↔
    ∃ r, reader = some r ∧ (r.state ≠ .dormant ∨ r.retain = true) ∧ r.ack = a := by
  cases reader with
  | none => simp [retainedAck]
  | some r =>
    have hretaining : r.retaining = true ↔ r.state ≠ .dormant ∨ r.retain = true := by
      unfold Subscription.retaining
      cases r.state <;> simp
    simp only [retainedAck, Option.ite_none_right_eq_some, hretaining, Option.some.injEq, exists_eq_left']

/-- There is no release point exactly when no reader is retaining (R20). -/
theorem State.releasePoint_eq_none_iff {s : State} :
    s.releasePoint = none ↔ ∀ p, retainedAck (s.readers.get p) = none := by
  refine ⟨fun h p => ?_, State.releasePoint_none⟩
  have hboth : retainedAck s.readers.a = none ∧ retainedAck s.readers.b = none := by
    unfold State.releasePoint at h
    split at h <;> simp_all
  cases p with
  | a => exact hboth.1
  | b => exact hboth.2

/-- With a record to release, the journal keeps those above the release point and closes its marker (R18, R20). -/
theorem evaluateRelease_of_point {s : State} {point : Seq} (hp : s.releasePoint = some point)
    (hrun : runFrom s.journal.next s.journal.held) (hcap : s.journal.held.length ≤ 2048) :
    (s.journal.held.length < distance s.journal.next point → evaluateRelease s = s) ∧
    (distance s.journal.next point ≤ s.journal.held.length → 0 < s.journal.held.length →
      evaluateRelease s = { s with journal := { s.journal with
        held := mapLast Record.closed
          (s.journal.held.drop (s.journal.held.length + 1 - distance s.journal.next point)) } }) := by
  have habove : s.journal.above point =
      s.journal.held.drop (s.journal.held.length + 1 - distance s.journal.next point) :=
    dropWhile_atOrAbove_of_run s.journal.next point s.journal.held hrun hcap
  unfold evaluateRelease
  simp only [hp, habove, List.length_drop]
  constructor
  · intro hfar
    rw [if_neg (by omega)]
  · intro hnear hpos
    rw [if_pos (by omega)]
    rfl

/-- The newest record after a release: the newest before it, closed if it is an open marker, or none (R18). -/
theorem getLast?_mapLast_closed_drop {l : List Record} {x : Record} (hx : l.getLast? = some x) (k : Nat) :
    (mapLast Record.closed (l.drop k)).getLast? = none ∨
      (mapLast Record.closed (l.drop k)).getLast? = some x.closed := by
  rw [getLast?_mapLast, List.getLast?_drop, hx]
  split
  · exact .inl rfl
  · exact .inr rfl

/-- Settles O20: the release point is the furthest ack point of the retaining readers, and what lies at or below it
leaves. -/
theorem releaseDropsAcknowledged : Obligations.ReleaseDropsAcknowledged := by
  intro s
  constructor
  · intro hnone
    have hpoint : s.releasePoint = none := State.releasePoint_none fun p => by
      rw [Option.eq_none_iff_forall_ne_some]
      intro a ha
      obtain ⟨r, hr, hretaining, -⟩ := retainedAck_eq_some_iff.1 ha
      obtain ⟨hs, hretain⟩ := hnone p r hr
      simp [hs, hretain] at hretaining
    rw [evaluateRelease, hpoint]
  · intro p r hr hretaining hfurthest hrun hcap
    have hack : retainedAck (s.readers.get p) = some r.ack := retainedAck_eq_some_iff.2 ⟨r, hr, hretaining, rfl⟩
    obtain ⟨point, hpoint⟩ : ∃ point, s.releasePoint = some point := by
      rw [← Option.isSome_iff_exists, Option.isSome_iff_ne_none, Ne, State.releasePoint_eq_none_iff]
      exact fun h => nomatch hack.symm.trans (h p)
    obtain ⟨⟨p', hp'⟩, hmax⟩ := State.releasePoint_some hpoint
    have hdist : distance s.journal.next point = (s.journal.next - r.ack).toNat := by
      obtain ⟨r', hr', hretaining', rfl⟩ := retainedAck_eq_some_iff.1 hp'
      exact Nat.le_antisymm (hfurthest p' r' hr' hretaining') (hmax p r.ack hack)
    obtain ⟨hfar, hnear⟩ := evaluateRelease_of_point hpoint hrun hcap
    rw [hdist] at hfar hnear
    refine ⟨hfar, fun hle hpos => ⟨_, hnear hle hpos, ?_, fun i hi => ?_, fun x hx => ?_⟩⟩
    · rw [length_mapLast, List.length_drop]
      omega
    · rw [length_mapLast] at hi
      rw [getElem?_mapLast hi, List.getElem?_drop]
    · exact getLast?_mapLast_closed_drop hx _

/-! ### Requests to the journal (R21 to R24) -/

/-- The first and the last removed number of a CLEARED record (R14). -/
theorem removedRange_spec (held : List Record) :
    (held = [] → removedRange held = none) ∧ (∀ x, held = [x] → removedRange held = some (x.seq, x.seq)) ∧
      ∀ x xs y, held = x :: xs ++ [y] → removedRange held = some (x.seq, y.seq) := by
  refine ⟨?_, ?_, ?_⟩
  · rintro rfl
    rfl
  · rintro x rfl
    rfl
  · rintro x xs y rfl
    rw [removedRange, List.getLast?_concat]
    rfl

/-- A cleared reader, field by field (R21). -/
theorem Subscription.cleared_eq (n : Seq) (r : Subscription) : r.cleared n = { r with
    ack := n - 1, send := n, timer := none, retry := 0
    state := if r.state = .dormant then .dormant else .active } := by
  unfold Subscription.cleared
  cases r.state <;> rfl

/-- Every subscribed reader stands at the CLEARED record `n` (R21, R44). -/
def State.clearReaders (n : Seq) (s : State) : State :=
  { s with readers := ⟨s.readers.a.map (Subscription.cleared n), s.readers.b.map (Subscription.cleared n)⟩ }

theorem clearReaders_get (n : Seq) (s : State) (p : Port) :
    (s.clearReaders n).readers.get p = (s.readers.get p).map (Subscription.cleared n) := by
  cases p <;> rfl

/-- The state after CLEAR_JOURNAL (R14, R21, R44). -/
theorem clearJournal_eq (s : State) : ∃ aged, clearJournal s =
    { withdrawRecords .b (withdrawRecords .a s) with
      alert := { s.alert with aged := aged }
      readers := ((withdrawRecords .b (withdrawRecords .a s)).clearReaders s.journal.next).readers
      journal := ⟨[⟨s.journal.next, s.stampNow, s.rules.generation, {},
        .cleared s.journal.held.length (removedRange s.journal.held)⟩], s.journal.next + 1, s.journal.mode⟩ } := by
  let w := withdrawRecords .b (withdrawRecords .a s)
  have hclear : clearJournal s = State.clearReaders s.journal.next
      (acceptRecord (.cleared s.journal.held.length (removedRange s.journal.held)) w.stampNow {}
        { w with journal := { w.journal with held := [] } }) := rfl
  obtain ⟨aged, haccept, -⟩ := acceptRecord_eq (.cleared s.journal.held.length (removedRange s.journal.held))
    w.stampNow {} { w with journal := { w.journal with held := [] } }
  have hjournal : w.journal = s.journal := by simp [w]
  have hclock : w.clock = s.clock := by simp [w]
  have hrules : w.rules = s.rules := by simp [w]
  have halert : w.alert = s.alert := by simp [w]
  refine ⟨aged, ?_⟩
  rw [hclear, haccept, ← halert, ← hrules, State.stampNow, State.stampNow, ← hclock, hjournal]
  rfl

/-- CLEAR_JOURNAL from the claimant is carried out and answered (R21, R157). -/
theorem exec_clearJournal {p : Port} {s : State} {q : Request} (hready : Ready s p .clearJournal q)
    (hclaim : s.holdsClaim p = true) :
    exec (.clearJournal p) s = .next ((clearJournal (s.putInHand p)).replied p q .ok .none) :=
  congrArg Host.Outcome.next (ready_claimed (block := fun _ t => (clearJournal t, .ok, .none)) hready hclaim)

/-- SET_JOURNAL_MODE past the claim: the byte, then Table 1-6 (R22). -/
def writeMode (bs : List Byte) (s : State) : Answer :=
  match journalModeOf (fieldByte bs 0) with
  | none => refuse .badValue s
  | some mode => setMode mode s

/-- SET_JOURNAL_MODE from the claimant is carried out and answered (R22, R157). -/
theorem exec_setJournalMode {p : Port} {s : State} {q : Request} (hready : Ready s p .setJournalMode q)
    (hclaim : s.holdsClaim p = true) {a : Answer} (ha : writeMode q.payload (s.putInHand p) = a) :
    exec (.setJournalMode p) s = .next (a.1.replied p q a.2.1 a.2.2) :=
  ha ▸ congrArg Host.Outcome.next (ready_claimed (block := writeMode) hready hclaim)

/-- The byte of SET_JOURNAL_MODE names a mode, or none above 1 (Table 10-2). -/
theorem writeMode_byte (b : Byte) (s : State) :
    (1 < b.toNat → writeMode [b] s = refuse .badValue s) ∧ writeMode [0] s = setMode .halt s ∧
      writeMode [1] s = setMode .wrap s := by
  refine ⟨fun hb => ?_, rfl, rfl⟩
  have hmode : journalModeOf (fieldByte [b] 0) = none := by
    show journalModeOf b.toNat = none
    unfold journalModeOf
    split
    · omega
    · omega
    · rfl
  rw [writeMode, hmode]

/-- The present mode written again has no effect (Table 1-6). -/
theorem setMode_same {mode : JournalMode} {s : State} (h : s.journal.mode = mode) :
    setMode mode s = (s, .ok, .none) := by
  subst h
  unfold setMode
  split
  · rfl
  · rfl
  · next h1 h2 => exact nomatch h1.symm.trans h2
  · next h1 h2 => exact nomatch h1.symm.trans h2

/-- HALT to WRAP closes the marker (Table 1-6). -/
theorem setMode_wrap {s : State} (h : s.journal.mode = .halt) :
    setMode .wrap s = ({ s with journal := { s.journal.closeMarker with mode := .wrap } }, .ok, .none) := by
  simp only [setMode, h]

/-- WRAP to HALT needs room (Table 1-6). -/
theorem setMode_halt {s : State} (h : s.journal.mode = .wrap) : setMode .halt s =
    if s.journal.held.length < 2048 then ({ s with journal := { s.journal with mode := .halt } }, .ok, .none)
    else refuse .journalFull s := by
  simp only [setMode, h]

/-- With no open marker there is none to close (R18). -/
theorem Journal.closeMarker_of_closed {j : Journal} (h : j.markerOpen = false) : j.closeMarker = j := by
  rcases j with ⟨held, next, mode⟩
  rcases List.eq_nil_or_concat held with rfl | ⟨pre, m, rfl⟩
  · rfl
  · have hm : m.closed = m := by
      simp only [List.concat_eq_append, Journal.markerOpen_eq, List.getLast?_concat] at h
      exact if_neg (Bool.eq_false_iff.1 h)
    simp only [Journal.closeMarker, List.concat_eq_append, mapLast_append, hm]

/-- Settles O21: a clear leaves CLEARED alone with every reader at it, and a mode that is written follows Table 1-6. -/
theorem journalIsClearedAndItsModeSet : Obligations.JournalIsClearedAndItsModeSet := by
  constructor
  · intro p s q hready hclaim
    obtain ⟨aged, hclear⟩ := clearJournal_eq (s.putInHand p)
    obtain ⟨hempty, hsingle, hmany⟩ := removedRange_spec s.journal.held
    refine ⟨aged, removedRange s.journal.held,
      ((withdrawRecords .b (withdrawRecords .a (s.putInHand p))).clearReaders s.journal.next).readers,
      ?_, hempty, hsingle, hmany, fun p' => ⟨fun hr => ?_, fun r hr => ?_⟩⟩
    · rw [exec_clearJournal hready hclaim, hclear]
      simp only [withdrawRecords_frame]
      rfl
    · rw [clearReaders_get, hr]
      rfl
    · rw [clearReaders_get, hr, Option.map_some, Subscription.cleared_eq]
  · intro p s q b hready hclaim hq
    obtain ⟨hbad, hhalt, hwrap⟩ := writeMode_byte b (s.putInHand p)
    have hexec {a : Answer} (ha : writeMode [b] (s.putInHand p) = a) := exec_setJournalMode hready hclaim (hq ▸ ha)
    refine ⟨fun hb => hexec (hbad hb), ?_, ?_, ?_, ?_, ?_, ?_⟩
    · rintro rfl hmode
      exact hexec (hhalt.trans (setMode_same hmode))
    · rintro rfl hmode
      exact hexec (hwrap.trans (setMode_same hmode))
    · rintro rfl hmode hopen
      refine (hexec (hwrap.trans (setMode_wrap hmode))).trans ?_
      rw [State.putInHand_journal, Journal.closeMarker_of_closed hopen]
    · rintro rfl hmode pre m hheld hm
      refine (hexec (hwrap.trans (setMode_wrap hmode))).trans ?_
      rw [State.putInHand_journal, Journal.closeMarker, hheld, mapLast_append, Record.closed, if_pos hm]
    · rintro rfl hmode hlen
      exact hexec (hhalt.trans ((setMode_halt (s := s.putInHand p) hmode).trans (if_pos hlen)))
    · rintro rfl hmode hlen
      exact hexec (hhalt.trans ((setMode_halt (s := s.putInHand p) hmode).trans (if_neg (Nat.not_lt_of_le hlen))))

/-! ### Reading the journal (R23, R24) -/

/-- READ_RECORDS is carried out on its start and its count (R23, R157). -/
theorem exec_readRecords {p : Port} {s : State} {q : Request} (hready : Ready s p .readRecords q) {a : Answer}
    (ha : readRecordsBlock q.payload (s.putInHand p) = a) :
    exec (.readRecords p) s = .next (a.1.replied p q a.2.1 a.2.2) :=
  ha ▸ congrArg Host.Outcome.next (request_ready readRecordsBlock hready)

/-- The fields of READ_RECORDS: a start, and a count from 1 to 4 (R23). -/
theorem readRecordsOf_payload (start : Seq) (b : Byte) : readRecordsOf (seqBytes start ++ [b]) =
    if 1 ≤ b.toNat ∧ b.toNat ≤ 4 then some (start, b.toNat) else none := by
  have hbyte : fieldByte (seqBytes start ++ [b]) 4 = b.toNat := by
    simp [fieldByte, seqBytes]
  simp only [readRecordsOf, hbyte, fieldSeq_seqBytes, within]
  split <;> rfl

/-- READ_RECORDS answers the held records from its start on, or refuses it (R23). -/
theorem readRecordsBlock_payload {s : State} (hrun : runFrom s.journal.next s.journal.held)
    (hcap : s.journal.held.length ≤ 2048) {start : Seq} {b : Byte} (hb : 1 ≤ b.toNat ∧ b.toNat ≤ 4) :
    readRecordsBlock (seqBytes start ++ [b]) s =
      if 1 ≤ (s.journal.next - start).toNat ∧ (s.journal.next - start).toNat ≤ s.journal.held.length then
        (s, .ok, .records ((s.journal.held.drop (s.journal.held.length - (s.journal.next - start).toNat)).take b.toNat))
      else refuse .notHeld s := by
  have hholds : s.journal.holds start = true ↔
      1 ≤ (s.journal.next - start).toNat ∧ (s.journal.next - start).toNat ≤ s.journal.held.length := by
    simp only [Journal.holds, Bool.and_eq_true, decide_eq_true_eq]
    rfl
  simp only [readRecordsBlock, readRecordsOf_payload, if_pos hb, hholds]
  split
  · next hheld => rw [Journal.from_, dropWhile_ne_of_run _ _ _ hrun hcap, if_pos hheld]
  · rfl

/-- The oldest held number is that of the first record of the run (R24). -/
theorem oldest_of_run {next : Seq} {held : List Record} (hrun : runFrom next held) :
    (if held.length = 0 then none else some (next - BitVec.ofNat 32 held.length)) = held.head?.map (·.seq) := by
  cases held with
  | nil => rfl
  | cons r rs =>
    obtain ⟨hr, -⟩ := hrun
    exact congrArg some hr.symm

/-- The journal's report over a run of records (R24). -/
theorem journalReport_of_run {s : State} (hrun : runFrom s.journal.next s.journal.held) : journalReport s =
    ⟨s.journal.mode, s.journal.held.length, s.journal.held.head?.map (·.seq), s.journal.next,
      (s.journal.held.getLast?.map (·.isOpenMarker)).getD false, readerReport s.readers.a,
      readerReport s.readers.b⟩ := by
  rw [journalReport, oldest_of_run hrun, Journal.markerOpen_eq]

/-- Settles O22: both requests answer from the journal as it stands. -/
theorem journalIsRead : Obligations.JournalIsRead := by
  intro p s q hrun hcap
  refine ⟨fun start b hready hq => ?_, fun hready => ?_⟩
  · have hexec {a : Answer} (ha : readRecordsBlock (seqBytes start ++ [b]) (s.putInHand p) = a) :=
      exec_readRecords hready (hq ▸ ha)
    refine ⟨fun hb => hexec (a := refuse .badValue (s.putInHand p)) ?_,
      fun h1 h4 hnot => hexec (a := refuse .notHeld (s.putInHand p)) ?_, fun h1 h4 hlow hhigh => ?_⟩
    · have hcount : ¬ (1 ≤ b.toNat ∧ b.toNat ≤ 4) := by
        rcases hb with rfl | hb
        · decide
        · omega
      rw [readRecordsBlock, readRecordsOf_payload, if_neg hcount]
    · refine (readRecordsBlock_payload (s := s.putInHand p) hrun hcap ⟨h1, h4⟩).trans ?_
      refine if_neg fun hheld => ?_
      obtain ⟨hlow, hhigh⟩ := hheld
      rcases hnot with h0 | hlt
      · exact absurd h0 (Nat.ne_of_gt hlow)
      · exact absurd hlt (Nat.not_lt_of_le hhigh)
    · exact hexec ((readRecordsBlock_payload (s := s.putInHand p) hrun hcap ⟨h1, h4⟩).trans (if_pos ⟨hlow, hhigh⟩))
  · have hreport (r : Option Subscription) : readerReport r = match r with
        | none => ⟨.unsubscribed, none⟩
        | some x => ⟨match x.state with
            | .active => .active
            | .stalled => .stalled
            | .dormant => .dormant, some (x.ack, x.send, x.window)⟩ := by
      cases r with
      | none => rfl
      | some x => cases hs : x.state <;> simp [readerReport, readerState, hs]
    refine (congrArg Host.Outcome.next (request_ready journalStatusBlock hready)).trans ?_
    rw [journalStatusBlock, journalReport_of_run (s := s.putInHand p) hrun, hreport, hreport]
    rfl

end Sys2Proof.Machine
end

section
/-!
PROOFS. The state after a reset (R25, R27, R64, R87, R103, R104, R120, R121, R137, R143, R151, R168), and the entry that
the classifier has in hand (R113 to R117).
-/
namespace Sys2Proof.Machine

/-! ### What every reset leaves -/

/-- A reset leaves the reset values of every block but the time base (R25, R27, R64, R87, R120, R121, R137, R143, R151,
R168). -/
theorem resetState_resetPart (cause : ResetCause) (straps : Straps) (s : State) :
    ResetState cause (resetPart cause straps s) where
  journal := by cases cause <;> rfl
  readers := ⟨rfl, rfl⟩
  incidents := ⟨fun i => Vector.getElem_replicate i.isLt, rfl⟩
  lines i := by
    have hline : (resetPart cause straps s).lines[i] = Line.reset := Vector.getElem_replicate i.isLt
    rw [hline]
    exact ⟨rfl, rfl, rfl, rfl, rfl, rfl⟩
  sampling := ⟨rfl, rfl⟩
  lineRules i := ⟨Vector.getElem_replicate i.isLt, Vector.getElem_replicate i.isLt⟩
  groupRules g := ⟨Vector.getElem_replicate g.isLt, Vector.getElem_replicate g.isLt⟩
  period := ⟨rfl, rfl, rfl⟩
  classifier := rfl
  switch := rfl
  alert := ⟨rfl, rfl, rfl⟩
  exceptions := ⟨fun i => Vector.getElem_replicate i.isLt, rfl⟩
  ports p := by cases p <;> rfl
  shared := ⟨rfl, rfl, rfl, rfl⟩

/-- REQUEST_KEEP_TIME keeps the options, and the time of day of a time that is set (R104, Table 5-4). -/
theorem timeKept_keepTime (c : TimeBase) : TimeKept c c.keepTime := by
  unfold TimeKept TimeBase.keepTime
  cases c.quality <;> simp [TimeBase.reset, TimeOfDay.zero, afterUs]

/-- The time base after a requested reset (R103, R104). -/
theorem time_resetPart (option : RestartOption) (straps : Straps) (s : State) :
    (option = .full → TimeReset (resetPart option.cause straps s).clock) ∧
      (option = .keepTime → TimeKept s.clock (resetPart option.cause straps s).clock) := by
  refine ⟨?_, ?_⟩
  · rintro rfl
    rfl
  · rintro rfl
    exact timeKept_keepTime s.clock

/-- RESTART_TIMER_EXPIRY resets the part once the timer has reached its deadline, and not before (R166). -/
theorem exec_restartTimerExpiry {straps : Straps} {s : State} {r : Restart} (hr : s.restart = some r) :
    exec (.restartTimerExpiry straps) s = .next
      (if reached s.clock.uptime r.deadline then resetPart r.option.cause straps s else s) := by
  simp only [exec, execRestartTimerExpiry, hr]

/-- The RESTART reply is eight bytes long on the wire (Table 10-1). -/
theorem length_restartReply (tag : Byte) : (Frame.reply false ⟨0x07, tag, .ok, .none⟩).bytes.length = 8 := rfl

/-- The completion of the RESTART reply resets the part (R166). -/
theorem exec_transmitFrameComplete_restart {straps : Straps} {s : State} {r : Restart} {tag : Byte} {sent : Nat}
    (hr : s.restart = some r)
    (hsending : (s.ports.get r.port).sending = some ⟨.reply false ⟨0x07, tag, .ok, .none⟩, sent⟩)
    (hsent : r.port = .b → 8 ≤ sent) :
    exec (.transmitFrameComplete r.port straps) s = .next (resetPart r.option.cause straps
      (s.setPort r.port { s.ports.get r.port with sending := none })) := by
  have hfinished : Sending.finished ⟨.reply false ⟨0x07, tag, .ok, .none⟩, sent⟩ r.port = true := by
    cases hp : r.port with
    | a => rfl
    | b => exact decide_eq_true ((length_restartReply tag).le.trans (hsent hp))
  simp only [exec, execTransmitFrameComplete, hsending, hfinished, if_true, restartAfter, State.setPort_restart, hr]
  exact congrArg Host.Outcome.next (if_pos ⟨trivial, rfl⟩)

/-- Settles O4: every way of a reset goes through the one reset of the part. -/
theorem resetsLeaveResetValues : Obligations.ResetsLeaveResetValues := by
  intro straps s
  refine ⟨⟨_, rfl, resetState_resetPart _ _ _, rfl, rfl⟩, ⟨_, rfl, resetState_resetPart _ _ _, rfl, rfl⟩, ?_⟩
  intro r hr
  have hexec := exec_restartTimerExpiry (straps := straps) hr
  have htime := time_resetPart r.option straps s
  refine ⟨?_, ?_, ?_, ?_⟩
  · rintro ⟨hreached, hfull⟩
    rw [if_pos hreached] at hexec
    refine ⟨_, hexec, ?_, htime.1 hfull, rfl⟩
    rw [hfull]
    exact resetState_resetPart _ _ _
  · rintro ⟨hreached, hkeep⟩
    rw [if_pos hreached] at hexec
    refine ⟨_, hexec, ?_, htime.2 hkeep, rfl⟩
    rw [hkeep]
    exact resetState_resetPart _ _ _
  · intro hreached
    rw [hexec, hreached]
    rfl
  · intro tag sent hsending hsent
    refine ⟨_, exec_transmitFrameComplete_restart hr hsending hsent, resetState_resetPart _ _ _, rfl, ?_⟩
    exact time_resetPart r.option straps (s.setPort r.port { s.ports.get r.port with sending := none })

/-! ### The invariants at reset -/

/-- Every field of the default bank is in range (R105, R120). -/
theorem default_inRange : Bank.default.inRange := by
  refine ⟨fun i => ?_, fun g => ?_⟩
  · rw [show Bank.default.lines[i] = LineRule.default from Vector.getElem_replicate i.isLt]
    simp [LineRule.inRange, LineRule.default]
  · rw [show Bank.default.groups[g] = GroupRule.default from Vector.getElem_replicate g.isLt]
    simp [GroupRule.inRange, GroupRule.default]

/-- Both ports are in their reset values at reset (R168). -/
theorem reset_ports (p : Port) : State.reset.ports.get p = PortState.reset := by cases p <;> rfl

/-- No slot of the incident table is OPEN at reset (R64). -/
theorem reset_incidents (i : SlotNo) : State.reset.incidents.slots[i] = none := Vector.getElem_replicate i.isLt

/-- Every line is in its reset values at reset (R87). -/
theorem reset_lines (i : LineNo) : State.reset.lines[i] = Line.reset := Vector.getElem_replicate i.isLt

/-- No exception slot is occupied at reset (R151). -/
theorem reset_exceptions (i : SlotNo) : State.reset.exceptions.slots[i] = none := Vector.getElem_replicate i.isLt

theorem reset_exceptionsOk : State.reset.exceptions.Ok :=
  fun i _ _ _ h => nomatch (reset_exceptions i).symm.trans h

theorem reset_noticesOk : State.reset.NoticesOk where
  on p _ h := by rw [reset_ports] at h; exact nomatch h
  flag p _ h := by rw [reset_ports] at h; exact nomatch h
  waiting p _ h := by rw [reset_ports] at h; exact nomatch h

theorem reset_queuesOk : State.reset.QueuesOk where
  fifo := Nat.zero_le _
  requests p := by rw [reset_ports]; exact Nat.zero_le _
  inHand p h := by rw [reset_ports] at h; exact nomatch h
  replies p := by rw [reset_ports]; rfl
  linkReplies p := by rw [reset_ports]; exact Nat.zero_le _
  alerts p := by rw [reset_ports]; exact Nat.zero_le _
  notices p := by rw [reset_ports]; exact Nat.zero_le _
  gaps p := by rw [reset_ports]; exact Nat.zero_le _
  records p := by rw [reset_ports]; exact Nat.zero_le _

theorem reset_claimOk : State.reset.ClaimOk := fun _ h => nomatch h

theorem reset_rulesOk : State.reset.RulesOk where
  active := default_inRange
  staged := default_inRange
  members i _ h := nomatch (reset_incidents i).symm.trans h
  groups i _ _ _ h := nomatch (reset_incidents i).symm.trans h

theorem reset_timeOk : State.reset.clock.Ok where
  sync := by rintro (h | h) <;> exact nomatch h
  missing := iff_of_false Bool.false_ne_true (fun h => nomatch h)
  holdover := iff_of_false Bool.false_ne_true (fun h => nomatch h)
  good := ⟨by decide, fun h => absurd rfl h⟩
  outlier := ⟨by decide, fun h => absurd rfl h⟩
  options := by simp [TimeOptions.inRange, State.reset, TimeBase.reset, TimeOptions.default]

theorem reset_readersOk : State.reset.ReadersOk :=
  (State.readersOk_iff _).2 fun p => by
    rw [reset_ports]
    cases p <;> exact .none fun ⟨_, hm, _⟩ => nomatch hm

theorem reset_linesOk : State.reset.LinesOk where
  lines i := by
    rw [reset_lines]
    refine ⟨fun _ => rfl, fun _ => ⟨rfl, rfl, rfl⟩, fun h => absurd h Bool.false_ne_true,
      iff_of_false Bool.false_ne_true ?_⟩
    rintro ⟨⟨_, h⟩, _⟩
    exact nomatch h
  line31 h := absurd h Bool.false_ne_true
  switch h := absurd h Bool.false_ne_true

theorem reset_heldOk : State.reset.HeldOk := by
  intro h
  obtain ⟨i, -, hi⟩ := List.any_eq_true.1 h
  rw [reset_lines] at hi
  exact absurd hi Bool.false_ne_true

theorem reset_inHandOk : State.reset.InHandOk := fun _ h => nomatch h

/-- Settles O5: each invariant holds of the reset values. -/
theorem resetStateMeetsInvariants : Obligations.ResetStateMeetsInvariants :=
  ⟨.reset _ _, reset_exceptionsOk, rfl, reset_noticesOk, reset_queuesOk, reset_claimOk, reset_rulesOk, reset_timeOk,
    reset_readersOk, reset_linesOk, reset_heldOk, reset_inHandOk⟩

/-! ### The entry in hand (R113 to R117) -/

/-- A line set with a line put in. -/
theorem getLsbD_putLine_true (set : LineSet) (i j : LineNo) :
    (putLine set i true).getLsbD j.val = if j = i then true else set.getLsbD j.val := by
  simp only [putLine, if_true, BitVec.getLsbD_or, BitVec.getLsbD_shiftLeft, BitVec.getLsbD_one]
  by_cases h : j = i
  · subst h
    simp [j.isLt]
  · rw [if_neg h]
    have : j.val ≠ i.val := fun hv => h (Fin.ext hv)
    by_cases hlt : j.val < i.val
    · simp [hlt]
    · have hsub : ¬ j.val - i.val = 0 := by omega
      simp [hsub]

/-- The entry in hand, in hand still while a record of it is left to build (R113). -/
def handOf (h : EntryInHand) : Option InHand := if h.left = [] then none else some (.entry h)

/-- After a record of an entry the hand holds what is left of it (R113). -/
theorem keepInHand_eq {s : State} {c : Classifier} (h : EntryInHand) (hs : s.classifier = c) (hc : c.inHand = none) :
    keepInHand (s, h) = { s with classifier := { c with inHand := handOf h } } := by
  subst hs
  unfold keepInHand handOf
  cases hl : h.left with
  | nil =>
    simp only [if_true]
    rw [← hc]
  | cons r rest => rfl

/-- CLASSIFIER_TAKE_ENTRY with an entry in hand builds its next record (R113). -/
theorem exec_takeEntry_inHand {s : State} {h : EntryInHand} {r : RecordToBuild} {rest : List RecordToBuild}
    (hs : s.classifier.inHand = some (.entry h)) (hl : h.left = r :: rest) :
    exec .classifierTakeEntry s = .next (keepInHand (buildRecord h r rest
      { s with classifier := { s.classifier with inHand := none } })) := by
  simp only [exec, execClassifierTakeEntry, hs, carryOn, hl]

/-- The incident call of an entry, by the group and the role of its line entry (R115). -/
theorem callFor_eq (rule : LineRule) (x : EdgeInfo) (s : State) : callFor rule x s = match rule.group with
    | some g => if rule.role = .none then (s, ⟨none, false, none⟩)
      else incidentCall ⟨x.line, g, rule.role, rule.cls, x.stamp, x.uptime⟩ s
    | none => (s, ⟨none, false, none⟩) := by
  unfold callFor
  cases rule.group <;> rfl

/-- A line entry asks for a call when it names a group and a role (R115). -/
theorem calls_eq (rule : LineRule) : rule.calls = (rule.group.isSome && decide (rule.role ≠ .none)) := by
  unfold LineRule.calls
  cases rule.role <;> rfl

/-- The records left after a LINE_CHANGE: the INCIDENT_CLOSE that its call answered comes first (R115). -/
theorem closed_left_eq (closed : Option CloseBody) : (closed.map RecordToBuild.incidentClose).toList =
    match closed with
    | some c => [.incidentClose c]
    | none => [] := by
  cases closed <;> rfl

/-- CHATTER_ON sets the lockout flag of its line (R116). -/
theorem buildChatterOn_classifier (h : EntryInHand) (n : Nat) (s : State) : (buildChatterOn h n s).classifier =
    { s.classifier with lockouts := putLine s.classifier.lockouts h.edge.line true } := by
  simp [buildChatterOn]

/-- Settles O42: the next record is built by its kind, and the hand keeps what is left. -/
theorem entryInHandIsCarriedOn : Obligations.EntryInHandIsCarriedOn := by
  intro s h r rest hs hl
  have hexec := exec_takeEntry_inHand hs hl
  refine ⟨?_, ?_, ?_⟩
  · rintro rfl
    refine hexec.trans (congrArg Host.Outcome.next ?_)
    rw [buildRecord, buildLineChange]
    refine (keepInHand_eq (c := { s.classifier with inHand := none }) _ (by simp) rfl).trans ?_
    rw [calls_eq, closed_left_eq, callFor_eq]
    rfl
  · rintro c rfl
    exact hexec.trans (congrArg Host.Outcome.next (keepInHand_eq _ (by simp) rfl))
  · rintro n rfl
    refine ⟨_, hexec.trans (congrArg Host.Outcome.next ?_), getLsbD_putLine_true s.classifier.lockouts h.edge.line⟩
    have hlockout := buildChatterOn_classifier h n { s with classifier := { s.classifier with inHand := none } }
    exact (keepInHand_eq { h with left := rest } hlockout rfl).trans rfl

end Sys2Proof.Machine
end

section
/-!
PROOFS. The end of a session (R36, R43, R162 to R164): what it makes of its port, its reader, the journal and the claim.
Its proofs are checked one after another (Elab.async off), within the memory of one.
-/
namespace Sys2Proof.Machine
set_option Elab.async false

/-! ### What the end withdraws (R43, R164) -/

/-- A reader set to itself changes nothing. -/
@[simp] theorem setReader_get_self (s : State) (p : Port) : s.setReader p (s.readers.get p) = s := by
  rw [State.setReader, PerPort.set_get_self]

/-- Two withdrawals are one. -/
theorem withdraw_withdraw (s : State) (p : Port) (f g : Frame → Bool) :
    (s.withdraw p f).withdraw p g = s.withdraw p fun x => f x || g x := by
  simp [State.withdraw, State.setPort, List.filter_filter, Bool.and_comm]

/-- The withdrawal of a waiting RECORDS frame: the frame leaves, and the reader is set anew (R30). -/
theorem withdrawRecords_eq (p : Port) (s : State) :
    withdrawRecords p s = (s.withdraw p Frame.isRecords).setReader p ((withdrawRecords p s).readers.get p) := by
  unfold withdrawRecords
  split
  · simp [State.setReader]
  · exact (setReader_get_self _ p).symm

/-- The return of a waiting GAP frame: the frame leaves, and the reader is set anew (R43). -/
theorem returnGap_eq (p : Port) (s : State) :
    returnGap p s = (s.withdraw p Frame.isGap).setReader p ((returnGap p s).readers.get p) := by
  unfold returnGap
  split
  · next h =>
    rw [withdraw_eq_self (waitingGap_eq_none_iff.1 h), setReader_get_self]
  · dsimp only
    split
    · exact (setReader_get_self _ p).symm
    · simp [State.setReader]

/-- Of the waiting frames a session's end leaves the replies (R164). -/
theorem withdrawForEnd_eq (p : Port) (s : State) : withdrawForEnd p s =
    (s.withdraw p fun f => f.rank != 0).setReader p ((withdrawForEnd p s).readers.get p) := by
  have hframes : (fun f : Frame => (f.isSessionFrame || f.isRecords) || f.isGap) = fun f => f.rank != 0 := by
    funext f
    cases f <;> rfl
  have hset (t : State) (r r' : Option Subscription) (f : Frame → Bool) :
      ((t.setReader p r).withdraw p f).setReader p r' = (t.withdraw p f).setReader p r' := by
    simp [State.setReader, State.withdraw, State.setPort]
  rw [← hframes, ← withdraw_withdraw, ← withdraw_withdraw]
  refine (returnGap_eq p _).trans ?_
  rw [withdrawRecords_eq, hset]
  simp only [← withdrawRecords_eq]
  rfl

/-- A withdrawal that leaves the GAP frames leaves the range of the waiting one. -/
theorem waitingGap_filter {g : Frame → Bool} (hg : ∀ f : Frame, f.isGap = true → g f = true) (l : List Frame) :
    waitingGap (l.filter g) = waitingGap l := by
  induction l with
  | nil => rfl
  | cons f l ih =>
    unfold waitingGap at ih ⊢
    by_cases hf : f.isGap = true
    · rw [List.filter_cons_of_pos (hg f hf), List.findSome?_cons, List.findSome?_cons, ih]
    · have hskip (l : List Frame) : waitingGap (f :: l) = waitingGap l := by
        cases f with
        | gap => exact absurd rfl hf
        | _ => rfl
      rw [List.filter_cons]
      split
      · exact (hskip _).trans (ih.trans (hskip _).symm)
      · exact ih.trans (hskip _).symm

/-- A pending gap after the return of the waiting GAP frame, if there is one (R43). -/
def returnedGap (waiting : List Frame) (gap : Option (Seq × Seq)) : Option (Seq × Seq) :=
  match waitingGap waiting with
  | none => gap
  | some range => some (mergeGap range gap)

theorem readers_returnGap (p : Port) (s : State) : (returnGap p s).readers.get p =
    (s.readers.get p).map fun r => { r with gap := returnedGap (s.ports.get p).waiting r.gap } := by
  unfold returnGap
  split
  · next h => simp [returnedGap, h]
  · next h =>
    cases hr : s.readers.get p <;> simp [returnedGap, h, hr]

/-- The reader of a port whose session ends, but for its send point and its timer (R43, R164). -/
theorem readers_withdrawForEnd_eq {p : Port} {s : State} {r : Subscription} (h : s.readers.get p = some r) :
    ∃ send timer, (withdrawForEnd p s).readers.get p = some { r with
      send := send, timer := timer, gap := returnedGap (s.ports.get p).waiting r.gap } := by
  obtain ⟨x, hx, hxr⟩ := reader_withdrawRecords (s := s.withdraw p Frame.isSessionFrame) (p := p) h
  refine ⟨x.send, x.timer, ?_⟩
  have hgap : waitingGap ((withdrawRecords p (s.withdraw p Frame.isSessionFrame)).ports.get p).waiting =
      waitingGap (s.ports.get p).waiting := by
    rw [waiting_withdrawRecords, State.withdraw_ports, PerPort.get_set_self,
      waitingGap_filter (by intro f; cases f <;> simp [Frame.isGap, Frame.isRecords]),
      waitingGap_filter (by intro f; cases f <;> simp [Frame.isGap, Frame.isSessionFrame, Frame.isAlert,
        Frame.isNotice, Frame.isSwitchDone])]
  rw [withdrawForEnd, readers_returnGap, hx, Option.map_some, hxr]
  simp only [returnedGap, hgap]

/-- A port without a reader has none after the withdrawals (R164). -/
theorem readers_withdrawForEnd_none {p : Port} {s : State} (h : s.readers.get p = none) :
    (withdrawForEnd p s).readers.get p = none := by
  rw [withdrawForEnd, readers_returnGap, reader_withdrawRecords_none (by simpa using h), Option.map_none]

/-! ### The reader's part (R36) -/

/-- Release goes by the journal and the readers alone (R20). -/
theorem evaluateRelease_journal_congr {s t : State} (hj : t.journal = s.journal) (hr : t.readers = s.readers) :
    (evaluateRelease t).journal = (evaluateRelease s).journal := by
  have hpoint : t.releasePoint = s.releasePoint := by simp only [State.releasePoint, hj, hr]
  unfold evaluateRelease
  rw [hpoint, hj]
  split
  · exact hj
  · split
    · rfl
    · exact hj

/-- Release touches the journal alone (R20). -/
theorem evaluateRelease_eq (s : State) : evaluateRelease s = { s with journal := (evaluateRelease s).journal } := by
  unfold evaluateRelease
  repeat' split
  all_goals rfl

/-- A session's end touches the journal and the reader of its port alone (R36). -/
theorem readerSessionEnd_eq (p : Port) (s : State) : readerSessionEnd p s =
    { s.setReader p ((readerSessionEnd p s).readers.get p) with journal := (readerSessionEnd p s).journal } := by
  have hkept : s = { s.setReader p (s.readers.get p) with journal := s.journal } := by rw [setReader_get_self]
  unfold readerSessionEnd
  split
  · exact hkept
  · split
    · exact hkept
    all_goals
      split
      · simp [State.setReader]
      · rw [evaluateRelease_eq]
        simp [State.setReader]

/-- Only a reader that is awake and does not retain leaves the journal with records to release (R36). -/
theorem readerSessionEnd_journal {p : Port} {s : State}
    (h : ∀ r, s.readers.get p = some r → r.state = .dormant ∨ r.retain = true) :
    (readerSessionEnd p s).journal = s.journal := by
  unfold readerSessionEnd
  split
  · rfl
  · next r hr =>
    rcases h r hr with hs | hretain
    · simp [hs]
    · simp only [hretain, if_true]
      split <;> rfl

/-- An awake reader that does not retain is ended (R36). -/
theorem readerSessionEnd_of_ended {p : Port} {s : State} {r : Subscription} (hr : s.readers.get p = some r)
    (hs : r.state ≠ .dormant) (hretain : r.retain = false) :
    readerSessionEnd p s = evaluateRelease (s.setReader p none) := by
  unfold readerSessionEnd
  simp only [hr, hretain]
  split
  · next h => exact absurd h hs
  · rfl
  · rfl

/-- An awake reader that retains is parked (R36). -/
theorem readerSessionEnd_of_retaining {p : Port} {s : State} {r : Subscription} (hr : s.readers.get p = some r)
    (hs : r.state ≠ .dormant) (hretain : r.retain = true) : readerSessionEnd p s =
      s.setReader p (some { r with state := .dormant, send := r.ack + 1, retry := 0, timer := none }) := by
  unfold readerSessionEnd
  simp only [hr, hretain]
  split
  · next h => exact absurd h hs
  · rfl
  · rfl

/-- A DORMANT reader stays as it is (R36). -/
theorem readerSessionEnd_of_dormant {p : Port} {s : State} {r : Subscription} (hr : s.readers.get p = some r)
    (hs : r.state = .dormant) : readerSessionEnd p s = s := by
  unfold readerSessionEnd
  simp only [hr, hs]

/-! ### The end of a session as a whole (R164) -/

/-- The end of a session: its port keeps the waiting replies, its claim is free, and the reader's part is that of the
delivery unit (R164). -/
theorem endSession_eq {p : Port} {s : State} {ses : Session} (h : (s.ports.get p).session = some ses) :
    endSession p s = { s with
      journal := (readerSessionEnd p (withdrawForEnd p s)).journal
      readers := s.readers.set p ((readerSessionEnd p (withdrawForEnd p s)).readers.get p)
      ports := s.ports.set p { s.ports.get p with
        session := none, waiting := (s.ports.get p).waiting.filter fun f => f.rank == 0 }
      claim := if s.claim = some ⟨p, ses.number⟩ then none else s.claim } := by
  have hend : endSession p s = State.setSession
      (if (readerSessionEnd p (withdrawForEnd p s)).claim = some ⟨p, ses.number⟩ then
        { readerSessionEnd p (withdrawForEnd p s) with claim := none }
      else readerSessionEnd p (withdrawForEnd p s)) p none := by
    unfold endSession
    simp only [h]
    rfl
  have hwhole : readerSessionEnd p (withdrawForEnd p s) = { s with
      journal := (readerSessionEnd p (withdrawForEnd p s)).journal
      readers := s.readers.set p ((readerSessionEnd p (withdrawForEnd p s)).readers.get p)
      ports := s.ports.set p { s.ports.get p with
        waiting := (s.ports.get p).waiting.filter fun f => f.rank == 0 } } := by
    refine (readerSessionEnd_eq p (withdrawForEnd p s)).trans ?_
    rw [withdrawForEnd_eq p s]
    simp [State.setReader, State.withdraw, State.setPort, bne]
  rw [hend, hwhole]
  split <;> simp [State.setSession, State.setPort]

/-- The reader and the journal after a session's end, by the reader before it (R36, R43). -/
theorem readerSessionEnd_withdrawForEnd (p : Port) (s : State) :
    let e := readerSessionEnd p (withdrawForEnd p s)
    (s.readers.get p = none → e.readers.get p = none ∧ e.journal = s.journal) ∧
    (∀ r, s.readers.get p = some r → r.state ≠ .dormant → r.retain = false →
      e.readers.get p = none ∧ e.journal = (evaluateRelease (s.setReader p none)).journal) ∧
    (∀ r, s.readers.get p = some r → (r.state = .dormant ∨ r.retain = true) → e.journal = s.journal) ∧
    (∀ r, s.readers.get p = some r → r.state = .dormant → ¬ Delivers (s.ports.get p).waiting →
      e.readers.get p = some r) ∧
    (∀ r, s.readers.get p = some r → r.state ≠ .dormant → r.retain = true → e.readers.get p = some { r with
      state := .dormant, send := r.ack + 1, retry := 0, timer := none,
      gap := returnedGap (s.ports.get p).waiting r.gap }) := by
  refine ⟨fun hr => ?_, fun r hr hs hretain => ?_, fun r hr hkept => ?_, fun r hr hs hidle => ?_,
    fun r hr hs hretain => ?_⟩
  · have hw := readers_withdrawForEnd_none hr
    simp [readerSessionEnd, hw]
  · obtain ⟨send, timer, hw⟩ := readers_withdrawForEnd_eq hr
    rw [readerSessionEnd_of_ended hw hs hretain]
    refine ⟨by simp, evaluateRelease_journal_congr (by simp) ?_⟩
    rw [withdrawForEnd_eq]
    simp
  · obtain ⟨send, timer, hw⟩ := readers_withdrawForEnd_eq hr
    refine (readerSessionEnd_journal fun x hx => ?_).trans (withdrawForEnd_journal p s)
    obtain rfl := Option.some.inj (hw.symm.trans hx)
    exact hkept
  · have hw : (withdrawForEnd p s).readers.get p = some r := by rw [readers_withdrawForEnd hidle, hr]
    rw [readerSessionEnd_of_dormant hw hs, hw]
  · obtain ⟨send, timer, hw⟩ := readers_withdrawForEnd_eq hr
    rw [readerSessionEnd_of_retaining hw hs hretain]
    simp

/-- SESSION_TIMER_EXPIRY ends the session at its deadline, and not before (R163). -/
theorem exec_sessionTimerExpiry {p : Port} {s : State} {ses : Session} (h : (s.ports.get p).session = some ses) :
    exec (.sessionTimerExpiry p) s =
      .next (if reached s.clock.uptime ses.deadline then loseSession p s else s) := by
  simp only [exec, execSessionTimerExpiry, h]

/-- A frame of rank below 4 is neither a RECORDS nor a GAP frame (R159). -/
theorem rank_lt_four_iff (f : Frame) : f.rank < 4 ↔ ¬ (f.isRecords = true ∨ f.isGap = true) := by
  cases f <;> simp [Frame.rank, Frame.isRecords, Frame.isGap]

/-- The first waiting GAP frame is the one that is returned (R43). -/
theorem returnedGap_of_waiting {frames pre post : List Frame} {first last ack : Seq} {gap : Option (Seq × Seq)}
    (hw : frames = pre ++ .gap first last ack :: post) (hpre : ∀ f l a, Frame.gap f l a ∉ pre) :
    returnedGap frames gap = some (first, (gap.map (·.2)).getD last) := by
  have hnone : waitingGap pre = none := waitingGap_eq_none_iff.2 fun f hf => by
    cases f with
    | gap f l a => exact absurd hf (hpre f l a)
    | _ => rfl
  have hfound : waitingGap frames = some (first, last) := by
    unfold waitingGap at hnone ⊢
    rw [hw, List.findSome?_append, hnone]
    rfl
  simp only [returnedGap, hfound]
  cases gap <;> rfl

/-- With no GAP frame waiting none is returned (R43). -/
theorem returnedGap_of_none {frames : List Frame} {gap : Option (Seq × Seq)} (h : ∀ f l a, Frame.gap f l a ∉ frames) :
    returnedGap frames gap = gap := by
  have hnone : waitingGap frames = none := waitingGap_eq_none_iff.2 fun f hf => by
    cases f with
    | gap f l a => exact absurd hf (h f l a)
    | _ => rfl
  simp only [returnedGap, hnone]

/-- Settles O13: the end as a whole, the reader's part of it by the reader's state, and the two ways to it. -/
theorem sessionEndReleasesItsHoldings : Obligations.SessionEndReleasesItsHoldings := by
  intro p s ses h
  refine ⟨?_, fun q hready => congrArg Host.Outcome.next (request_ready (closeBlock p) hready), fun hreached => ?_,
    fun hbefore => ?_⟩
  · obtain ⟨hnone, hended, hkept, hdormant, hretaining⟩ := readerSessionEnd_withdrawForEnd p s
    intro e
    have he : e = _ := endSession_eq h
    have hreader : e.readers.get p = (readerSessionEnd p (withdrawForEnd p s)).readers.get p := by simp [he]
    have hjournal : e.journal = (readerSessionEnd p (withdrawForEnd p s)).journal := by rw [he]
    rw [hreader, hjournal]
    refine ⟨by rw [he], by simp [he], fun p' hp => ?_, fun hc => by simp [he, hc], fun hc => by simp [he, hc],
      hnone, hended, hkept, fun r hr hs hrank => ?_, fun r hr hs hretain hgap => ?_,
      fun r first last ack pre post hr hs hretain hw hpre => ?_⟩
    · rw [he]
      exact ⟨PerPort.get_set_ne _ hp _, PerPort.get_set_ne _ hp _⟩
    · refine hdormant r hr hs ?_
      rintro ⟨f, hm, hd⟩
      exact (rank_lt_four_iff f).1 (hrank f hm) hd
    · rw [hretaining r hr hs hretain, returnedGap_of_none hgap]
    · rw [hretaining r hr hs hretain, returnedGap_of_waiting hw hpre]
  · rw [exec_sessionTimerExpiry h, if_pos hreached]
    rfl
  · rw [exec_sessionTimerExpiry h, hbefore]
    rfl

end Sys2Proof.Machine
end

section
/-!
PROOFS. The capacities of the queues and the claim (R30, R42, R75, R141, R147, R156, R157, R159, R165): what the
operations within one command make of the waiting frames, of one port and of the state. Its many small proofs are
checked one after another (Elab.async off), within the memory of one.
-/
namespace Sys2Proof.Machine
set_option Elab.async false

/-! ### Waiting frames -/

/-- From `l` to `l'` no reply of the session layer comes or goes, and no other kind comes to exceed its capacity. -/
structure FramesKept (l l' : List Frame) : Prop where
  replies : l'.countP Frame.isSessionReply = l.countP Frame.isSessionReply
  linkReplies : l'.countP Frame.isLinkReply ≤ l.countP Frame.isLinkReply
  alerts : l.countP Frame.isAlert ≤ 4 → l'.countP Frame.isAlert ≤ 4
  notices : l.countP Frame.isNotice ≤ 1 → l'.countP Frame.isNotice ≤ 1
  gaps : l'.countP Frame.isGap ≤ l.countP Frame.isGap
  records : l'.countP Frame.isRecords ≤ l.countP Frame.isRecords

theorem FramesKept.refl (l : List Frame) : FramesKept l l := ⟨rfl, le_rfl, id, id, le_rfl, le_rfl⟩

theorem FramesKept.trans {l l' l'' : List Frame} (h : FramesKept l l') (h' : FramesKept l' l'') : FramesKept l l'' where
  replies := h'.replies.trans h.replies
  linkReplies := h'.linkReplies.trans h.linkReplies
  alerts hl := h'.alerts (h.alerts hl)
  notices hl := h'.notices (h.notices hl)
  gaps := h'.gaps.trans h.gaps
  records := h'.records.trans h.records

/-- Frames that are no replies of the session layer leave. -/
theorem FramesKept.of_sublist {l l' : List Frame} (h : l'.Sublist l)
    (hr : l'.countP Frame.isSessionReply = l.countP Frame.isSessionReply) : FramesKept l l' where
  replies := hr
  linkReplies := h.countP_le
  alerts := h.countP_le.trans
  notices := h.countP_le.trans
  gaps := h.countP_le
  records := h.countP_le

theorem FramesKept.filter {g : Frame → Bool} (hg : ∀ f : Frame, f.isSessionReply = true → g f = true) (l : List Frame) :
    FramesKept l (l.filter g) := by
  refine .of_sublist List.filter_sublist ?_
  rw [List.countP_filter]
  refine List.countP_congr fun f _ => ?_
  rw [Bool.and_eq_true]
  exact ⟨And.left, fun hf => ⟨hf, hg f hf⟩⟩

/-- A frame of the session's own joins the queue, where its kind has room (R141, R147). -/
theorem FramesKept.concat {l l' : List Frame} {f : Frame} (h : FramesKept l l') (hf : f.isSessionFrame = true)
    (ha : f.isAlert = true → l.countP Frame.isAlert ≤ 4 → l'.countP Frame.isAlert < 4)
    (hn : f.isNotice = true → l'.countP Frame.isNotice = 0) : FramesKept l (l' ++ [f]) := by
  obtain ⟨hreplies, hlinks, halerts, hnotices, hgaps, hrecords⟩ := h
  have hsame {g : Frame → Bool} (hg : g f = false) : (l' ++ [f]).countP g = l'.countP g := by
    simp [List.countP_append, hg]
  have hmore {g : Frame → Bool} (hg : g f = true) : (l' ++ [f]).countP g = l'.countP g + 1 := by
    simp [List.countP_append, hg]
  cases f with
  | alert _ =>
    exact ⟨(hsame rfl).trans hreplies, (hsame rfl).trans_le hlinks, fun hl => (hmore rfl).trans_le (ha rfl hl),
      fun hl => (hsame rfl).trans_le (hnotices hl), (hsame rfl).trans_le hgaps, (hsame rfl).trans_le hrecords⟩
  | notice _ _ =>
    exact ⟨(hsame rfl).trans hreplies, (hsame rfl).trans_le hlinks, fun hl => (hsame rfl).trans_le (halerts hl),
      fun _ => by rw [hmore rfl, hn rfl], (hsame rfl).trans_le hgaps, (hsame rfl).trans_le hrecords⟩
  | switchDone _ =>
    exact ⟨(hsame rfl).trans hreplies, (hsame rfl).trans_le hlinks, fun hl => (hsame rfl).trans_le (halerts hl),
      fun hl => (hsame rfl).trans_le (hnotices hl), (hsame rfl).trans_le hgaps, (hsame rfl).trans_le hrecords⟩
  | _ => exact nomatch hf

/-- Once the first frame of some kind has left, the others are what is left. -/
theorem countP_eraseFirst {f : Frame → Bool} {x : Frame} {l : List Frame} (h : l.find? f = some x) (g : Frame → Bool) :
    l.countP g = (eraseFirst f l).countP g + if g x then 1 else 0 := by
  induction l with
  | nil => exact nomatch h
  | cons y ys ih =>
    unfold eraseFirst
    by_cases hy : f y = true
    · rw [List.find?_cons_of_pos hy] at h
      obtain rfl := Option.some.inj h
      rw [if_pos hy, List.countP_cons]
    · rw [List.find?_cons_of_neg hy] at h
      rw [if_neg hy, List.countP_cons, List.countP_cons, ih h]
      omega

theorem eraseFirst_sublist {α : Type} (f : α → Bool) (l : List α) : (eraseFirst f l).Sublist l := by
  induction l with
  | nil => exact .refl _
  | cons x xs ih =>
    unfold eraseFirst
    split
    · exact List.sublist_cons_self x xs
    · exact ih.cons_cons x

/-- An ALERT joins the queue, the oldest leaving first when four wait (R141). -/
theorem FramesKept.concat_alert (l : List Frame) (a : AlertFrame) : FramesKept l
    ((if Config.alertCapacity ≤ (l.filter Frame.isAlert).length then eraseFirst Frame.isAlert l else l) ++
      [.alert a]) := by
  rw [← List.countP_eq_length_filter]
  split
  · next hfull =>
    have hpos : 0 < l.countP Frame.isAlert := lt_of_lt_of_le (by decide) hfull
    obtain ⟨y, hy, hya⟩ := List.countP_pos_iff.1 hpos
    obtain ⟨x, hx⟩ := Option.isSome_iff_exists.1 (List.find?_isSome.2 ⟨y, hy, hya⟩)
    have hxa : x.isAlert = true := List.find?_some hx
    have hreply : x.isSessionReply = false := by
      cases x with
      | alert _ => rfl
      | _ => exact nomatch hxa
    have hkept : FramesKept l (eraseFirst Frame.isAlert l) := by
      refine .of_sublist (eraseFirst_sublist _ l) ?_
      simp [countP_eraseFirst hx, hreply]
    refine hkept.concat rfl (fun _ hl => ?_) nofun
    rw [countP_eraseFirst hx, hxa, if_pos rfl] at hl
    exact hl
  · next hroom => exact (FramesKept.refl l).concat rfl (fun _ _ => Nat.lt_of_not_le hroom) nofun

/-! ### One port, and the state -/

/-- From `x` to `y` no request of the port comes or goes, and its waiting frames keep to their capacities. -/
structure PortState.Kept (x y : PortState) : Prop where
  requests : y.requests = x.requests
  inHand : y.inHand = x.inHand
  frames : FramesKept x.waiting y.waiting

/-- What the blocks do within one command: no request comes or goes and none is answered, the event FIFO and the waiting
frames keep to their capacities, and a claim held by an open session is freed or stays with one. -/
structure QueuesKept (s t : State) : Prop where
  fifo : s.fifo.length ≤ 64 → t.fifo.length ≤ 64
  ports : ∀ p, (s.ports.get p).Kept (t.ports.get p)
  claim : s.ClaimOk → t.ClaimOk

theorem PortState.Kept.refl (x : PortState) : x.Kept x := ⟨rfl, rfl, .refl _⟩

theorem PortState.Kept.trans {x y z : PortState} (h : x.Kept y) (h' : y.Kept z) : x.Kept z :=
  ⟨h'.requests.trans h.requests, h'.inHand.trans h.inHand, h.frames.trans h'.frames⟩

/-- The claim is free, or its session number is that of the session open on its port (R165). -/
theorem State.claimOk_iff (s : State) : s.ClaimOk ↔
    ∀ h, s.claim = some h → (s.ports.get h.port).session.map (·.number) = some h.session := by
  simp only [State.ClaimOk, Option.map_eq_some_iff]

/-- The claim stays with an open session while every session keeps its number (R165). -/
theorem State.ClaimOk.of_sessions {s t : State} (h : s.ClaimOk) (hc : t.claim = s.claim)
    (hs : ∀ p, (t.ports.get p).session.map (·.number) = (s.ports.get p).session.map (·.number)) : t.ClaimOk := by
  rw [State.claimOk_iff] at h ⊢
  intro x hx
  rw [hs]
  exact h x (hc ▸ hx)

/-- A free claim is in order (R165). -/
theorem State.ClaimOk.of_free {s : State} (h : s.claim = none) : s.ClaimOk := fun _ hx => nomatch h.symm.trans hx

/-- An entry joins an event FIFO that is not full (R75). -/
theorem length_fifo_of_not_full {s : State} (h : ¬ s.fifoFull = true) (e : FifoEntry) :
    (s.fifo ++ [e]).length ≤ 64 := by
  have hroom : s.fifo.length < 64 := Nat.lt_of_not_le fun hle => h (decide_eq_true hle)
  simpa using hroom

/-- An entry joins the event FIFO where it is admitted (R77). -/
theorem length_fifo_of_admits {s : State} (h : s.admits = true) (e : FifoEntry) : (s.fifo ++ [e]).length ≤ 64 := by
  refine length_fifo_of_not_full (fun hfull => ?_) e
  simp [State.admits, hfull] at h

/-- After a session's end its port is CLOSED (R164). -/
theorem session_endSession (p : Port) (s : State) : ((endSession p s).ports.get p).session = none := by
  cases hs : (s.ports.get p).session with
  | none => simp only [endSession, hs]
  | some ses => simp [endSession_eq hs]

namespace QueuesKept

theorem refl (s : State) : QueuesKept s s := ⟨id, fun _ => .refl _, id⟩

theorem trans {s t u : State} (h : QueuesKept s t) (h' : QueuesKept t u) : QueuesKept s u :=
  ⟨h'.fifo ∘ h.fifo, fun p => (h.ports p).trans (h'.ports p), h'.claim ∘ h.claim⟩

/-- A fold of steps that keep the queues keeps them. -/
theorem foldl {α : Type} {f : State → α → State} (h : ∀ s a, QueuesKept s (f s a)) (l : List α) (s : State) :
    QueuesKept s (l.foldl f s) := by
  induction l generalizing s with
  | nil => exact .refl _
  | cons a l ih => exact (h s a).trans (ih _)

/-- What changes neither the event FIFO nor a port nor the claim keeps the queues. -/
theorem of_frame {s t : State} (hf : t.fifo = s.fifo := by simp) (hp : t.ports = s.ports := by simp)
    (hc : t.claim = s.claim := by simp) : QueuesKept s t where
  fifo h := by rwa [hf]
  ports p := by rw [hp]; exact .refl _
  claim h := h.of_sessions hc fun p => by rw [hp]

/-- What changes the event FIFO alone, within its capacity, keeps the queues (R75). -/
theorem of_fifo {s t : State} (hf : s.fifo.length ≤ 64 → t.fifo.length ≤ 64) (hp : t.ports = s.ports := by simp)
    (hc : t.claim = s.claim := by simp) : QueuesKept s t where
  fifo := hf
  ports p := by rw [hp]; exact .refl _
  claim h := h.of_sessions hc fun p => by rw [hp]

/-- A change of one port under which its session keeps its number. -/
theorem setPort {s : State} {p : Port} {x : PortState} (hx : (s.ports.get p).Kept x)
    (hs : x.session.map (·.number) = (s.ports.get p).session.map (·.number)) : QueuesKept s (s.setPort p x) where
  fifo h := h
  ports q := by
    rw [State.setPort_ports, PerPort.get_set]
    split
    · next hq => exact hq ▸ hx
    · exact .refl _
  claim h := h.of_sessions rfl fun q => by
    rw [State.setPort_ports, PerPort.get_set]
    split
    · next hq => exact hq ▸ hs
    · rfl

/-- A session's fields are written, its number kept. -/
theorem setSession {s : State} {p : Port} {ses : Session}
    (h : (s.ports.get p).session.map (·.number) = some ses.number) :
    QueuesKept s (s.setSession p (some ses)) :=
  .setPort ⟨rfl, rfl, .refl _⟩ h.symm

/-- Waiting frames that are no replies are withdrawn. -/
theorem withdraw (s : State) (p : Port) {f : Frame → Bool} (hf : ∀ l r, f (.reply l r) = false) :
    QueuesKept s (s.withdraw p f) := by
  refine .setPort ⟨rfl, rfl, .filter (fun x hx => ?_) _⟩ rfl
  cases x with
  | reply l r => rw [hf l r, Bool.not_false]
  | _ => exact nomatch hx

/-! ### Exceptions and alerts (R140, R141, R147) -/

theorem queueNotice (p : Port) (s : State) : QueuesKept s (queueNotice p s) := by
  unfold Machine.queueNotice
  split
  · exact .refl s
  · next hnone =>
    refine .setPort ⟨rfl, rfl, (FramesKept.refl _).concat rfl nofun fun _ => ?_⟩ rfl
    exact List.countP_eq_zero.2 (by simpa using hnone)

theorem offerNotice (p : Port) (s : State) : QueuesKept s (offerNotice p s) := by
  unfold Machine.offerNotice
  split
  · exact .refl s
  · next ses hs =>
    split
    · exact .queueNotice p s
    · exact .setSession (by rw [hs]; rfl)

theorem raise (k : ExceptionKind) (x : ExceptionSubject) (s : State) : QueuesKept s (raise k x s) := by
  have htaken : QueuesKept s { s with exceptions := s.exceptions.take s.clock.uptime k x } := .of_frame
  unfold Machine.raise
  dsimp only
  split
  · exact (htaken.trans (.offerNotice .a _)).trans (.offerNotice .b _)
  · exact htaken

theorem forgetNotices (p : Port) (s : State) : QueuesKept s (forgetNotices p s) := by
  have hwithdrawn : QueuesKept s (s.withdraw p Frame.isNotice) := .withdraw s p fun _ _ => rfl
  unfold Machine.forgetNotices
  dsimp only
  split
  · exact hwithdrawn
  · next ses hs => exact hwithdrawn.trans (.setSession (by rw [hs]; rfl))

theorem offerAlert (p : Port) (a : AlertInfo) (s : State) : QueuesKept s (offerAlert p a s) := by
  unfold Machine.offerAlert
  split
  · exact .refl s
  · next ses hs =>
    split
    · refine .setPort ⟨rfl, rfl, ?_⟩ (by rw [hs]; rfl)
      simpa using FramesKept.concat_alert (s.ports.get p).waiting _
    · exact .refl s

theorem takeAlert (a : AlertInfo) (s : State) : QueuesKept s (takeAlert a s) :=
  have htaken : QueuesKept s { s with alert := ⟨true, some a.seq, false, true⟩ } := .of_frame
  (htaken.trans (.offerAlert .a a _)).trans (.offerAlert .b a _)

theorem handAlert (a : Option AlertInfo) (s : State) : QueuesKept s (handAlert a s) := by
  cases a with
  | none => exact .refl s
  | some a => exact .takeAlert a s

/-! ### Readers and the journal (R19, R30, R41) -/

theorem withdrawRecords (p : Port) (s : State) : QueuesKept s (withdrawRecords p s) := by
  rw [withdrawRecords_eq]
  have hwithdrawn : QueuesKept s (s.withdraw p Frame.isRecords) := .withdraw s p fun _ _ => rfl
  exact hwithdrawn.trans .of_frame

theorem returnGap (p : Port) (s : State) : QueuesKept s (returnGap p s) := by
  rw [returnGap_eq]
  have hwithdrawn : QueuesKept s (s.withdraw p Frame.isGap) := .withdraw s p fun _ _ => rfl
  exact hwithdrawn.trans .of_frame

theorem loseRecord (n : Seq) (p : Port) (s : State) : QueuesKept s (loseRecord n p s) := by
  unfold Machine.loseRecord
  split
  · exact .refl s
  · split
    · exact .refl s
    · dsimp only
      split
      · exact .withdrawRecords p s
      · have hset (r : Option Subscription) : QueuesKept s ((Machine.withdrawRecords p s).setReader p r) :=
          (QueuesKept.withdrawRecords p s).trans .of_frame
        exact (hset _).trans (.raise _ _ _)

theorem overwriteOldest (s : State) : QueuesKept s (overwriteOldest s) := by
  unfold Machine.overwriteOldest
  split
  · exact .refl s
  · next rest _ =>
    have hremoved : QueuesKept s { s with journal := { s.journal with held := rest } } := .of_frame
    exact (hremoved.trans (.loseRecord _ .a _)).trans (.loseRecord _ .b _)

theorem acceptOffer (o : Offer) (s : State) : QueuesKept s (acceptOffer o s) :=
  have haccepted (b : RecordBody) (t : Stamp) (f : RecordFlags) : QueuesKept s (acceptRecord b t f s) := .of_frame
  (haccepted _ _ _).trans (.handAlert _ _)

theorem append (o : Offer) (s : State) : QueuesKept s (append o s).1 := by
  unfold Machine.append
  split
  · dsimp only
    split
    · exact .acceptOffer o s
    · exact (QueuesKept.overwriteOldest s).trans (.acceptOffer o _)
  · split
    · exact .acceptOffer o s
    · split
      · have haccepted (b : RecordBody) (t : Stamp) (f : RecordFlags) : QueuesKept s (acceptRecord b t f s) := .of_frame
        exact ((haccepted _ _ _).trans (.raise _ _ _)).trans (.handAlert _ _)
      · have hcounted (j : Journal) : QueuesKept s { s with journal := j } := .of_frame
        exact (hcounted _).trans (.handAlert _ _)

theorem offer (o : Offer) (s : State) : QueuesKept s (offer o s) := .append o s

/-! ### The commands of the delivery unit and of the journal (R21, R28 to R40) -/

theorem endReader (p : Port) (s : State) : QueuesKept s (endReader p s) := by
  unfold Machine.endReader
  split
  · exact .refl s
  · have hwithdrawn : QueuesKept s (s.withdraw p fun f => f.isRecords || f.isGap) := .withdraw s p fun _ _ => rfl
    exact hwithdrawn.trans .of_frame

theorem subscribeBlock (p : Port) (bs : List Byte) (s : State) : QueuesKept s (subscribeBlock p bs s).1 := by
  unfold Machine.subscribeBlock
  split
  · exact .refl s
  · split
    · exact .refl s
    · have hwithdrawn : QueuesKept s (s.withdraw p fun f => f.isRecords || f.isGap) := .withdraw s p fun _ _ => rfl
      exact hwithdrawn.trans
        (.of_frame (by simp [subscribeReader]) (by simp [subscribeReader]) (by simp [subscribeReader]))

theorem resumeBlock (p : Port) (bs : List Byte) (s : State) : QueuesKept s (resumeBlock p bs s).1 := by
  unfold Machine.resumeBlock
  dsimp only
  split
  · exact .refl s
  · exact (QueuesKept.withdrawRecords p s).trans .of_frame

theorem ackBlock (p : Port) (bs : List Byte) (s : State) : QueuesKept s (ackBlock p bs s).1 := by
  have hack (r : Subscription) (n : Seq) : QueuesKept s (ackReader p r n s).1 := by
    unfold ackReader
    split
    · exact .refl s
    · split
      · exact .refl s
      · split
        · exact .refl s
        · exact .of_frame
  unfold Machine.ackBlock
  split
  · exact .refl s
  · split
    · exact .refl s
    · exact hack _ _
    · exact hack _ _

theorem retransmitExpiry (p : Port) (s : State) : QueuesKept s (retransmitExpiry p s) := by
  have hset (r : Option Subscription) : QueuesKept s ((Machine.withdrawRecords p s).setReader p r) :=
    (QueuesKept.withdrawRecords p s).trans .of_frame
  unfold Machine.retransmitExpiry
  dsimp only
  split
  · exact .withdrawRecords p s
  · split
    · exact hset _
    · exact (hset _).trans (.raise _ _ _)

theorem clearJournal (s : State) : QueuesKept s (clearJournal s) :=
  have hwithdrawn := (QueuesKept.withdrawRecords .a s).trans (.withdrawRecords .b _)
  hwithdrawn.trans (.of_frame (by simp [Machine.clearJournal]) (by simp [Machine.clearJournal])
    (by simp [Machine.clearJournal]))

theorem setMode (mode : JournalMode) (s : State) : QueuesKept s (setMode mode s).1 := by
  unfold Machine.setMode
  split
  · exact .refl s
  · exact .refl s
  · exact .of_frame
  · split
    · exact .of_frame
    · exact .refl s

/-! ### The incident unit and the classifier -/

theorem incidentCall (c : Call) (s : State) : QueuesKept s (incidentCall c s).1 := by
  unfold Machine.incidentCall
  split
  · exact .of_frame
  · split
    · unfold openCall
      split
      · exact .raise _ _ s
      · exact .of_frame
    · exact .refl s

theorem callFor (rule : LineRule) (x : EdgeInfo) (s : State) : QueuesKept s (callFor rule x s).1 := by
  unfold Machine.callFor
  split
  · exact .refl s
  · split
    · exact .refl s
    · exact .incidentCall _ s

theorem closeSlot (reason : CloseReason) (i : SlotNo) (x : Incident) (s : State) :
    QueuesKept s (closeSlot reason i x s) :=
  have hfreed : QueuesKept s (s.setSlot i none) := .of_frame
  hfreed.trans (.offer _ _)

theorem closeAllIncidents (s : State) : QueuesKept s (closeAllIncidents s).1 := by
  refine List.foldlRecOn (motive := fun acc : State × Nat => QueuesKept s acc.1) _ _ (.refl s) fun acc hacc i _ => ?_
  unfold closeForSwitch
  split
  · exact hacc
  · exact hacc.trans (.closeSlot _ i _ _)

theorem keepInHand (r : State × EntryInHand) : QueuesKept r.1 (keepInHand r) := .of_frame

theorem buildRecord (h : EntryInHand) (r : RecordToBuild) (rest : List RecordToBuild) (s : State) :
    QueuesKept s (buildRecord h r rest s).1 := by
  cases r with
  | lineChange => exact (QueuesKept.callFor _ _ s).trans (.offer _ _)
  | incidentClose c => exact .offer _ s
  | chatterOn n => exact (QueuesKept.offer _ s).trans (.of_frame rfl rfl rfl)

theorem carryOn (h : EntryInHand) (s : State) : QueuesKept s (carryOn h s) := by
  unfold Machine.carryOn
  split
  · exact .refl s
  · exact (QueuesKept.buildRecord h _ _ s).trans (.keepInHand _)

theorem setClassified (x : EdgeInfo) (s : State) : QueuesKept s (setClassified x s) := .of_frame

theorem classifyRelease (rule : LineRule) (e : ReleaseEntry) (s : State) :
    QueuesKept s (classifyRelease rule e s) := by
  have hoffered (c : Classifier) (o : Offer) : QueuesKept s (Machine.offer o { s with classifier := c }) :=
    have hclassifier : QueuesKept s { s with classifier := c } := .of_frame
    hclassifier.trans (.offer _ _)
  unfold Machine.classifyRelease
  dsimp only
  split
  · exact hoffered _ _
  · refine QueuesKept.trans ?_ (.keepInHand _)
    exact (hoffered _ _).trans (.setClassified _ _)

theorem classify (e : FifoEntry) (s : State) : QueuesKept s (classify e s) := by
  unfold Machine.classify
  split
  · exact (QueuesKept.setClassified _ s).trans (.carryOn _ _)
  · exact .classifyRelease _ _ s
  · unfold classifyMarker
    dsimp only
    split
    · exact .offer _ s
    · exact .of_frame

/-! ### The front end (R75, R77, R79) -/

theorem setLine (s : State) (i : LineNo) (l : Line) : QueuesKept s (s.setLine i l) := .of_frame

theorem offerEntry (i : LineNo) (e : FrontEntry) (s : State) : QueuesKept s (offerEntry i e s) := by
  unfold Machine.offerEntry
  split
  · next hadmits => exact .of_fifo fun _ => length_fifo_of_admits hadmits _
  · exact (QueuesKept.setLine s i _).trans (.raise _ _ _)

theorem admitLine (s : State) (i : LineNo) : QueuesKept s (admitLine s i) := by
  unfold Machine.admitLine
  split
  · exact .refl s
  · split
    · exact .refl s
    · next hroom => exact .of_fifo fun _ => length_fifo_of_not_full hroom _

theorem admitHeld (s : State) : QueuesKept s (admitHeld s) := by
  unfold Machine.admitHeld
  split
  · exact .refl s
  · exact .foldl .admitLine _ s

/-- CLASSIFIER_TAKE_ENTRY: an entry leaves the event FIFO, and held entries are admitted to its place (R78, R79). -/
theorem execClassifierTakeEntry {s t : State} (ht : execClassifierTakeEntry s = .next t) : QueuesKept s t := by
  obtain rfl := Host.Outcome.next.inj ht
  split
  · have hemptied : QueuesKept s { s with classifier := { s.classifier with inHand := none } } := .of_frame
    exact hemptied.trans (.carryOn _ _)
  · exact .refl s
  · exact .refl s
  · next e rest _ hfifo =>
    have htaken : QueuesKept s { s with fifo := rest } := .of_fifo fun hl => by
      rw [hfifo] at hl
      exact (Nat.le_succ _).trans hl
    exact (htaken.trans (.admitHeld _)).trans (.classify e _)

theorem execDeferredSnapshotBuild {s t : State} (ht : execDeferredSnapshotBuild s = .next t) : QueuesKept s t := by
  obtain rfl := Host.Outcome.next.inj ht
  split
  · exact .refl s
  · exact .refl s
  · split
    · have hemptied : QueuesKept s { s with classifier := { s.classifier with inHand := none } } := .of_frame
      exact hemptied.trans (.offer _ _)
    · exact .refl s

theorem lockOut (i : LineNo) (level : Level) (e : FrontEntry) (s : State) :
    QueuesKept s (lockOut i level e s) := by
  have hlocked (l : Line) :
      QueuesKept s (Machine.offerEntry i e (Machine.raise .chatterLock (.line i) (s.setLine i l))) :=
    ((QueuesKept.setLine s i l).trans (.raise _ _ _)).trans (.offerEntry i e _)
  unfold Machine.lockOut
  dsimp only
  split
  · exact hlocked _
  · exact (hlocked _).trans (.setLine _ i _)

theorem confirmChange (i : LineNo) (level : Level) (stamp : Stamp) (uptime : Uptime) (s : State) :
    QueuesKept s (confirmChange i level stamp uptime s) := by
  unfold Machine.confirmChange
  dsimp only
  split
  · exact (QueuesKept.setLine s i _).trans (.lockOut i level _ _)
  · exact (QueuesKept.setLine s i _).trans (.offerEntry i _ _)

theorem takeSample (i : LineNo) (level : Level) (changes : Bool) (s : State) :
    QueuesKept s (takeSample i level changes s) := by
  unfold Machine.takeSample
  split
  · exact .of_frame
  · split
    · exact .refl s
    · unfold startConfirmation
      split
      · exact .confirmChange i level _ _ s
      · exact .of_frame
  · unfold takeConfirming
    split
    · exact .of_frame
    · split
      · exact .confirmChange i level _ _ s
      · exact .of_frame
  · exact .of_frame

theorem sampleLine (pins : BitVec 32) (s : State) (i : LineNo) : QueuesKept s (sampleLine pins s i) := by
  unfold Machine.sampleLine
  dsimp only
  split
  · exact (QueuesKept.setLine s i _).trans (.takeSample i _ _ _)
  · exact .setLine s i _

theorem sampleAll (pins : BitVec 32) (s : State) : QueuesKept s (sampleAll pins s) :=
  have hnext (u : Uptime) : QueuesKept s { s with nextSample := u } := .of_frame
  (hnext _).trans (.foldl (.sampleLine pins) _ _)

theorem releaseLine (i : LineNo) (lockLevel : Level) (s : State) : QueuesKept s (releaseLine i lockLevel s) :=
  (QueuesKept.setLine s i _).trans (.offerEntry i _ _)

/-! ### The time base and the switch controller -/

theorem reportQuality (old : Quality) (s : State) : QueuesKept s (reportQuality old s) := by
  unfold Machine.reportQuality
  split
  · exact .refl s
  · dsimp only
    split
    · exact (QueuesKept.offer _ s).trans (.raise _ _ _)
    · exact .offer _ s

theorem reportStep (correction : Option Int) (s : State) : QueuesKept s (reportStep correction s) := by
  unfold Machine.reportStep
  split
  · exact .refl s
  · split
    · exact .offer _ s
    · exact .refl s

/-- A change of the time base, reported (R90). -/
theorem setClock (s : State) (c : TimeBase) (old : Quality) :
    QueuesKept s (Machine.reportQuality old { s with clock := c }) :=
  have hset : QueuesKept s { s with clock := c } := .of_frame
  hset.trans (.reportQuality old _)

theorem takePulse (s : State) : QueuesKept s (takePulse s) :=
  have hset : QueuesKept s { s with clock := s.clock.pulse } := .of_frame
  (hset.trans (.reportStep _ _)).trans (.reportQuality _ _)

theorem setTimeTo (t : TimeOfDay) (s : State) : QueuesKept s (setTimeTo t s) :=
  have hset : QueuesKept s { s with clock := s.clock.setTime t } := .of_frame
  (hset.trans (.offer _ _)).trans (.reportQuality _ _)

theorem writeOptions (o : TimeOptions) (s : State) : QueuesKept s (writeOptions o s) :=
  have hset (c : TimeBase) (x : SwitchController) : QueuesKept s { s with clock := c, switch := x } := .of_frame
  (hset _ _).trans (.reportQuality _ _)

theorem offerSwitchDone (s : State) : QueuesKept s (offerSwitchDone s) := by
  unfold Machine.offerSwitchDone
  split
  · exact .refl s
  · split
    · exact .setPort ⟨rfl, rfl, (FramesKept.refl _).concat rfl nofun nofun⟩ rfl
    · exact .refl s

theorem rejectSwitch (r : Rejection) (s : State) : QueuesKept s (rejectSwitch r s) :=
  have hended : QueuesKept s (endSwitch (.rejected r) s) := .of_frame
  (hended.trans (.raise _ _ _)).trans (.offerSwitchDone _)

theorem takeSwitchInstant (s : State) : QueuesKept s (takeSwitchInstant s) :=
  have happended (old new : Generation) : QueuesKept s
      (Machine.append { body := .rulesetSwitch old new (Machine.closeAllIncidents s).2 }
        (Machine.closeAllIncidents s).1).1 :=
    (QueuesKept.closeAllIncidents s).trans (.append _ _)
  have hinstalled : QueuesKept s (installRules s).1 :=
    (happended s.rules.generation (nextSkippingZero s.rules.generation)).trans
      (.of_frame (by simp [installRules]) (by simp [installRules]) (by simp [installRules]))
  have hended : QueuesKept s (endSwitch (.switched (installRules s).2) (installRules s).1) := hinstalled.trans .of_frame
  (hended.trans (.offerSwitchDone _)).trans (.admitHeld _)

/-! ### Sessions and the claim (R160, R163 to R165) -/

/-- A session's end leaves the replies, and frees the claim that the session holds (R164). -/
theorem endSession (p : Port) (s : State) : QueuesKept s (endSession p s) := by
  cases hs : (s.ports.get p).session with
  | none =>
    unfold Machine.endSession
    rw [hs]
    exact .refl s
  | some ses =>
    rw [endSession_eq hs]
    refine ⟨id, fun q => ?_, fun h => ?_⟩
    · rw [PerPort.get_set]
      split
      · next hq =>
        subst hq
        refine ⟨rfl, rfl, .filter (fun f hf => ?_) _⟩
        cases f with
        | reply _ _ => rfl
        | _ => exact nomatch hf
      · exact .refl _
    · rw [State.claimOk_iff] at h ⊢
      intro x hclaim
      obtain ⟨hother, hx⟩ := Option.ite_none_left_eq_some.1 hclaim
      have hport : x.port ≠ p := by
        rintro rfl
        have hnumber : some ses.number = some x.session := by
          rw [← h x hx, hs]
          rfl
        rw [Option.some.inj hnumber] at hother
        exact hother hx
      simp only [PerPort.get_set_ne _ hport]
      exact h x hx

/-- A session opens on a port that is CLOSED (R160). -/
theorem startSession {p : Port} {s : State} (h : (s.ports.get p).session = none) (n : Nat) :
    QueuesKept s (startSession p n s) where
  fifo hl := hl
  ports q := by
    rw [Machine.startSession, State.setPort_ports, PerPort.get_set]
    split
    · next hq => exact hq ▸ ⟨rfl, rfl, .refl _⟩
    · exact .refl _
  claim hc := by
    rw [State.claimOk_iff] at hc ⊢
    intro x hx
    have hport : x.port ≠ p := by
      rintro rfl
      have hnumber := hc x hx
      rw [h] at hnumber
      exact nomatch hnumber
    rw [Machine.startSession, State.setPort_ports, PerPort.get_set_ne _ hport]
    exact hc x hx

theorem openBlock (p : Port) (bs : List Byte) (s : State) : QueuesKept s (openBlock p bs s).1 := by
  unfold Machine.openBlock
  split
  · exact .refl s
  · split
    · exact .refl s
    · exact (QueuesKept.endSession p s).trans (.startSession (session_endSession p s) _)

theorem loseSession (p : Port) (s : State) : QueuesKept s (loseSession p s) := by
  have hemptied : QueuesKept s ((Machine.endSession p s).setPort p
      { (Machine.endSession p s).ports.get p with lastReply := none }) :=
    (QueuesKept.endSession p s).trans (.setPort ⟨rfl, rfl, .refl _⟩ rfl)
  exact hemptied.trans (.raise _ _ _)

/-- The claim goes to the session that asks for it (R165). -/
theorem claimBlock (p : Port) (bs : List Byte) (s : State) : QueuesKept s (claimBlock p bs s).1 := by
  unfold Machine.claimBlock
  split
  · next ses _ hs =>
    refine ⟨id, fun _ => .refl _, fun _ x hx => ?_⟩
    obtain rfl := Option.some.inj hx
    exact ⟨ses, hs, rfl⟩
  · split <;> exact .refl s

theorem releaseBlock (p : Port) (bs : List Byte) (s : State) : QueuesKept s (releaseBlock p bs s).1 := by
  unfold Machine.releaseBlock
  split
  · exact ⟨id, fun _ => .refl _, fun _ => .of_free rfl⟩
  · exact .refl s

/-! ### The options and the exceptions (R144, R148, R150) -/

theorem applyAlertFrames (p : Port) (was now : Bool) (s : State) : QueuesKept s (applyAlertFrames p was now s) := by
  unfold Machine.applyAlertFrames
  split
  · exact .withdraw s p fun _ _ => rfl
  · exact .refl s

theorem applyNotices {p : Port} {ses : Session} {s : State}
    (h : (s.ports.get p).session.map (·.number) = some ses.number) (was now : Bool) :
    QueuesKept s (applyNotices p ses was now s) := by
  have hwithdrawn : QueuesKept s (s.withdraw p Frame.isNotice) := .withdraw s p fun _ _ => rfl
  unfold Machine.applyNotices
  split
  · refine QueuesKept.trans (.setSession ?_) (.queueNotice p _)
    exact h
  · split
    · refine hwithdrawn.trans (.setSession ?_)
      simpa using h
    · exact .setSession h

theorem setSessionOptionsBlock (p : Port) (bs : List Byte) (s : State) :
    QueuesKept s (setSessionOptionsBlock p bs s).1 := by
  unfold Machine.setSessionOptionsBlock
  split
  · exact .refl s
  · exact .refl s
  · next ses _ hs =>
    refine (QueuesKept.applyAlertFrames p _ _ s).trans (.applyNotices ?_ _ _)
    unfold Machine.applyAlertFrames
    split <;> simp [hs]

theorem clearExceptionBlock (bs : List Byte) (s : State) : QueuesKept s (clearExceptionBlock bs s).1 := by
  unfold Machine.clearExceptionBlock
  split
  · exact .refl s
  · next which _ =>
    have hcleared : QueuesKept s { s with exceptions := s.exceptions.clear which } := .of_frame
    dsimp only
    split
    · exact (hcleared.trans (.forgetNotices .a _)).trans (.forgetNotices .b _)
    · exact hcleared

/-! ### The other requests -/

theorem readRecordsBlock (bs : List Byte) (s : State) : QueuesKept s (readRecordsBlock bs s).1 := by
  unfold Machine.readRecordsBlock
  repeat' split
  all_goals exact .refl s

theorem listIncidentsBlock (bs : List Byte) (s : State) : QueuesKept s (listIncidentsBlock bs s).1 := by
  unfold Machine.listIncidentsBlock
  split <;> exact .refl s

theorem readRuleBlock (bs : List Byte) (s : State) : QueuesKept s (readRuleBlock bs s).1 := by
  unfold Machine.readRuleBlock
  split <;> exact .refl s

theorem clearAlertBlock (bs : List Byte) (s : State) : QueuesKept s (clearAlertBlock bs s).1 := by
  unfold Machine.clearAlertBlock
  repeat' split
  all_goals exact .of_frame

theorem takeSnapshotBlock (p : Port) (bs : List Byte) (s : State) : QueuesKept s (takeSnapshotBlock p bs s).1 := by
  unfold Machine.takeSnapshotBlock
  split
  · next hadmits => exact .of_fifo fun _ => length_fifo_of_admits hadmits _
  · exact .refl s

theorem withClaim {p : Port} {s : State} {a : Answer} (h : QueuesKept s a.1) : QueuesKept s (withClaim p s a).1 := by
  unfold Machine.withClaim
  split
  · exact h
  · exact .refl s

theorem setJournalModeBlock (p : Port) (bs : List Byte) (s : State) : QueuesKept s (setJournalModeBlock p bs s).1 := by
  refine .withClaim ?_
  split
  · exact .refl s
  · exact .setMode _ s

theorem dropReaderBlock (p : Port) (bs : List Byte) (s : State) : QueuesKept s (dropReaderBlock p bs s).1 := by
  refine .withClaim ?_
  split
  · exact .refl s
  · exact .endReader _ s

theorem closeIncidentBlock (p : Port) (bs : List Byte) (s : State) : QueuesKept s (closeIncidentBlock p bs s).1 := by
  refine .withClaim ?_
  split
  · exact .refl s
  · split
    · exact .refl s
    · exact .closeSlot _ _ _ s

theorem setTimeBlock (p : Port) (bs : List Byte) (s : State) : QueuesKept s (setTimeBlock p bs s).1 := by
  refine .withClaim ?_
  split
  · exact .refl s
  · exact .setTimeTo _ s

theorem setTimeOptionsBlock (p : Port) (bs : List Byte) (s : State) : QueuesKept s (setTimeOptionsBlock p bs s).1 := by
  refine .withClaim ?_
  split
  · exact .refl s
  · split
    · exact .refl s
    · exact .writeOptions _ s

theorem editStaged (edit : Bank → Bank) (s : State) : QueuesKept s (editStaged edit s).1 := by
  unfold Machine.editStaged
  split
  · exact .refl s
  · exact .of_frame

theorem writeLineRuleBlock (p : Port) (bs : List Byte) (s : State) : QueuesKept s (writeLineRuleBlock p bs s).1 := by
  refine .withClaim ?_
  split
  · exact .refl s
  · exact .editStaged _ s

theorem writeGroupRuleBlock (p : Port) (bs : List Byte) (s : State) :
    QueuesKept s (writeGroupRuleBlock p bs s).1 := by
  refine .withClaim ?_
  split
  · exact .refl s
  · exact .editStaged _ s

theorem writeGlobalRuleBlock (p : Port) (bs : List Byte) (s : State) :
    QueuesKept s (writeGlobalRuleBlock p bs s).1 := by
  refine .withClaim ?_
  split
  · exact .refl s
  · exact .editStaged _ s

theorem switchRulesBlock (p : Port) (bs : List Byte) (s : State) : QueuesKept s (switchRulesBlock p bs s).1 := by
  refine .withClaim ?_
  split
  · exact .refl s
  · exact .of_frame

theorem abortSwitchBlock (p : Port) (bs : List Byte) (s : State) : QueuesKept s (abortSwitchBlock p bs s).1 := by
  have hended : QueuesKept s (endSwitch .aborted s) := .of_frame
  refine .withClaim ?_
  split
  · exact hended.trans (.offerSwitchDone _)
  · exact .refl s
  · exact .refl s

theorem restartBlock (p : Port) (bs : List Byte) (s : State) : QueuesKept s (restartBlock p bs s).1 := by
  refine .withClaim ?_
  split
  · exact .refl s
  · exact .of_frame

end QueuesKept

end Sys2Proof.Machine
end

section
/-!
PROOFS. Requests that arrive, are answered and depart, and frames that begin: with the blocks' part they keep the
capacities of the queues and the claim in every step (R30, R42, R75, R141, R147, R156, R157, R159, R165). Its many small
proofs are checked one after another (Elab.async off), within the memory of one.
-/
namespace Sys2Proof.Machine
set_option Elab.async false

/-! ### One port -/

/-- The queues of one port keep to their capacities; the replies of the session layer are counted apart. -/
structure PortState.Bounded (x : PortState) : Prop where
  requests : x.requests.length ≤ 4
  inHand : x.inHand = true → x.requests ≠ []
  linkReplies : x.waiting.countP Frame.isLinkReply ≤ 1
  alerts : x.waiting.countP Frame.isAlert ≤ 4
  notices : x.waiting.countP Frame.isNotice ≤ 1
  gaps : x.waiting.countP Frame.isGap ≤ 1
  records : x.waiting.countP Frame.isRecords ≤ 1

/-- The replies of the session layer that wait on a port (R157). -/
def PortState.replies (x : PortState) : Nat := x.waiting.countP Frame.isSessionReply

/-- One port in order: its queues keep to their capacities, and one reply of the session layer waits exactly while a
request is in hand (R157). -/
structure PortState.Ok (x : PortState) : Prop extends x.Bounded where
  answered : x.replies = if x.inHand then 1 else 0

theorem PortState.Bounded.of_kept {x y : PortState} (h : x.Bounded) (k : x.Kept y) : y.Bounded where
  requests := k.requests ▸ h.requests
  inHand hy := k.requests ▸ h.inHand (k.inHand ▸ hy)
  linkReplies := k.frames.linkReplies.trans h.linkReplies
  alerts := k.frames.alerts h.alerts
  notices := k.frames.notices h.notices
  gaps := k.frames.gaps.trans h.gaps
  records := k.frames.records.trans h.records

theorem PortState.Kept.replies_eq {x y : PortState} (k : x.Kept y) : y.replies = x.replies := k.frames.replies

/-- A frame whose kind has no capacity, or room in it, joins the queue. -/
theorem PortState.Bounded.concat {x : PortState} (h : x.Bounded) {f : Frame} (hf : f.isSessionFrame = false)
    (hl : f.isLinkReply = true → x.waiting.any Frame.isLinkReply = false)
    (hg : f.isGap = true → x.waiting.any Frame.isGap = false)
    (hr : f.isRecords = true → x.waiting.any Frame.isRecords = false) (last : Option Reply) :
    PortState.Bounded { x with waiting := x.waiting ++ [f], lastReply := last } := by
  have hsame {g : Frame → Bool} {n : Nat} (hg : g f = false) (hn : x.waiting.countP g ≤ n) :
      (x.waiting ++ [f]).countP g ≤ n := by
    simpa [List.countP_append, hg] using hn
  have hone {g : Frame → Bool} (hnone : x.waiting.any g = false) : (x.waiting ++ [f]).countP g ≤ 1 := by
    have hzero : x.waiting.countP g = 0 := List.countP_eq_zero.2 (by simpa using hnone)
    rw [List.countP_append, hzero, Nat.zero_add]
    exact List.countP_le_length
  obtain ⟨hrequests, hinHand, hlinks, halerts, hnotices, hgaps, hrecords⟩ := h
  refine ⟨hrequests, hinHand, ?_, hsame ?_ halerts, hsame ?_ hnotices, ?_, ?_⟩
  · cases hx : f.isLinkReply with
    | true => exact hone (hl hx)
    | false => exact hsame hx hlinks
  · exact (Bool.or_eq_false_iff.1 (Bool.or_eq_false_iff.1 hf).1).1
  · exact (Bool.or_eq_false_iff.1 (Bool.or_eq_false_iff.1 hf).1).2
  · cases hx : f.isGap with
    | true => exact hone (hg hx)
    | false => exact hsame hx hgaps
  · cases hx : f.isRecords with
    | true => exact hone (hr hx)
    | false => exact hsame hx hrecords

/-- A frame that is no reply of the session layer leaves their count. -/
theorem PortState.replies_concat (x : PortState) (f : Frame) :
    (x.waiting ++ [f]).countP Frame.isSessionReply = x.replies + if f.isSessionReply then 1 else 0 := by
  simp [PortState.replies, List.countP_append]

theorem PortState.Ok.of_kept {x y : PortState} (h : x.Ok) (k : x.Kept y) : y.Ok where
  toBounded := h.toBounded.of_kept k
  answered := by rw [k.replies_eq, k.inHand]; exact h.answered

/-- The oldest request is put in hand, its block does its part, and its reply waits (R157). -/
theorem PortState.Ok.reply {x y : PortState} (h : x.Ok) (hidle : x.inHand = false) (hne : x.requests ≠ [])
    (k : PortState.Kept { x with inHand := true } y) (r : Reply) (last : Option Reply) :
    PortState.Ok { y with waiting := y.waiting ++ [.reply false r], lastReply := last } where
  toBounded := by
    have hin : PortState.Bounded { x with inHand := true } := { h.toBounded with inHand := fun _ => hne }
    exact (hin.of_kept k).concat (f := .reply false r) rfl nofun nofun nofun last
  answered := by
    have hnone : y.replies = 0 := by
      rw [k.replies_eq]
      exact h.answered.trans (by rw [hidle]; rfl)
    show List.countP _ _ = if y.inHand then 1 else 0
    rw [PortState.replies_concat, hnone, k.inHand]
    rfl

/-- A frame begins: with a reply of the session layer its request departs (R157, R159). -/
theorem PortState.Ok.begin {x : PortState} (h : x.Ok) {f : Frame} (hpick : pick x.waiting = some f)
    (sending : Option Sending) :
    (PortState.releaseRequest { x with waiting := afterPick x.waiting, sending := sending } f).Ok := by
  have hsub : (afterPick x.waiting).Sublist x.waiting := eraseFirst_sublist _ _
  have hcount : x.replies = (afterPick x.waiting).countP Frame.isSessionReply + if f.isSessionReply then 1 else 0 :=
    countP_eraseFirst hpick _
  have hbounded : PortState.Bounded { x with waiting := afterPick x.waiting, sending := sending } :=
    { h.toBounded with
      linkReplies := hsub.countP_le.trans h.linkReplies
      alerts := hsub.countP_le.trans h.alerts
      notices := hsub.countP_le.trans h.notices
      gaps := hsub.countP_le.trans h.gaps
      records := hsub.countP_le.trans h.records }
  have hkept (hf : f.isSessionReply = false) :
      PortState.Ok { x with waiting := afterPick x.waiting, sending := sending } :=
    ⟨hbounded, by rw [hf] at hcount; exact hcount.symm.trans h.answered⟩
  cases f with
  | reply fromLink r =>
    cases fromLink with
    | true => exact hkept rfl
    | false =>
      have hcount : x.replies = (afterPick x.waiting).countP Frame.isSessionReply + 1 := hcount
      have hin : x.inHand = true := by
        by_contra hidle
        have hnone := h.answered
        rw [if_neg hidle, hcount] at hnone
        exact absurd hnone (Nat.succ_ne_zero _)
      have hone := h.answered
      rw [if_pos hin, hcount] at hone
      simp only [PortState.releaseRequest, hin, if_true]
      exact { hbounded with
        requests := List.length_tail.trans_le ((Nat.sub_le _ _).trans hbounded.requests)
        inHand := nofun
        answered := Nat.succ.inj hone }
  | _ => exact hkept rfl

/-! ### The state -/

/-- A request is taken only while none is in hand, from a queue that holds it (R157). -/
theorem State.idle_of_takable {s : State} {p : Port} {q : Request} (h : s.takable p = some q) :
    (s.ports.get p).inHand = false ∧ (s.ports.get p).requests ≠ [] := by
  unfold State.takable at h
  split at h
  · exact nomatch h
  · next hfree =>
    exact ⟨(Bool.or_eq_false_iff.1 (Bool.eq_false_iff.2 hfree)).2, fun hnil => by simp [hnil] at h⟩

/-- The queues of the part and its claim, taken apart by port. -/
structure State.HostOk (s : State) : Prop where
  fifo : s.fifo.length ≤ 64
  ports : ∀ p, (s.ports.get p).Ok
  claim : s.ClaimOk

theorem State.hostOk_iff (s : State) : s.HostOk ↔ s.QueuesOk ∧ s.ClaimOk where
  mp h := ⟨⟨h.fifo, fun p => (h.ports p).requests, fun p => (h.ports p).inHand, fun p => (h.ports p).answered,
    fun p => (h.ports p).linkReplies, fun p => (h.ports p).alerts, fun p => (h.ports p).notices,
    fun p => (h.ports p).gaps, fun p => (h.ports p).records⟩, h.claim⟩
  mpr := fun ⟨h, hc⟩ => ⟨h.fifo, fun p => ⟨⟨h.requests p, h.inHand p, h.linkReplies p, h.alerts p, h.notices p,
    h.gaps p, h.records p⟩, h.replies p⟩, hc⟩

namespace State.HostOk

theorem of_kept {s t : State} (h : s.HostOk) (k : QueuesKept s t) : t.HostOk :=
  ⟨k.fifo h.fifo, fun p => (h.ports p).of_kept (k.ports p), k.claim h.claim⟩

/-- One port is put in order, its session kept, where all else is. -/
theorem of_setPort {s : State} {p : Port} {x : PortState} (hf : s.fifo.length ≤ 64)
    (hother : ∀ q, q ≠ p → (s.ports.get q).Ok) (hc : s.ClaimOk) (hx : x.Ok)
    (hs : x.session = (s.ports.get p).session) : (s.setPort p x).HostOk where
  fifo := hf
  ports q := by
    rw [State.setPort_ports, PerPort.get_set]
    split
    · exact hx
    · next hq => exact hother q hq
  claim := hc.of_sessions rfl fun q => by
    rw [State.setPort_ports, PerPort.get_set]
    split
    · next hq => rw [hq, hs]
    · rfl

theorem setPort {s : State} (h : s.HostOk) {p : Port} {x : PortState} (hx : x.Ok)
    (hs : x.session = (s.ports.get p).session) : (s.setPort p x).HostOk :=
  .of_setPort h.fifo (fun q _ => h.ports q) h.claim hx hs

/-! ### Requests (R156, R157) -/

/-- The oldest request is put in hand, its block does its part, and its reply waits (R157). -/
theorem reply {s t : State} (h : s.HostOk) {p : Port} {q : Request} (hq : s.takable p = some q)
    (k : QueuesKept (s.putInHand p) t) (r : Reply) (last : Option Reply) :
    (t.setPort p { t.ports.get p with
      waiting := (t.ports.get p).waiting ++ [.reply false r], lastReply := last }).HostOk := by
  obtain ⟨hidle, hne⟩ := State.idle_of_takable hq
  refine .of_setPort (k.fifo h.fifo) (fun q hq => ?_) (k.claim ?_) ((h.ports p).reply hidle hne ?_ r last) rfl
  · refine PortState.Ok.of_kept ?_ (k.ports q)
    rw [State.putInHand_ports, PerPort.get_set_ne _ hq]
    exact h.ports q
  · exact h.claim.of_sessions rfl fun q => by rw [session_putInHand]
  · simpa using k.ports p

/-- A request step keeps the queues and the claim when its block does (R157). -/
theorem takeRequest {s : State} (h : s.HostOk) {p : Port} {wanted : Byte → Bool} {carry : Request → State → Answer}
    (hc : ∀ q t, QueuesKept t (carry q t).1) : (takeRequest p wanted carry s).HostOk := by
  unfold Machine.takeRequest
  split
  · exact h
  · next q hq =>
    split
    · dsimp only
      split
      · exact h.reply hq (.refl _) _ _
      · have hanswer (t : State) (r : Reply) : t.answer p r = t.setPort p { t.ports.get p with
            waiting := (t.ports.get p).waiting ++ [.reply false r], lastReply := some r } := by
          cases p <;> rfl
        rw [hanswer]
        exact h.reply hq (hc q _) _ _
    · exact h

theorem request {s : State} (h : s.HostOk) {p : Port} {k : RequestKind} {block : List Byte → State → Answer}
    (hb : ∀ bs t, QueuesKept t (block bs t).1) : (request p k block s).HostOk := by
  refine h.takeRequest fun q t => ?_
  unfold carryOut
  split
  · exact .refl t
  · split
    · exact .refl t
    · exact hb _ t

theorem requestArrival {s : State} (h : s.HostOk) (p : Port) (q : Request) : (requestArrival p q s).HostOk := by
  unfold Machine.requestArrival
  dsimp only
  split
  · exact h
  · split
    · split
      · exact h
      · next hnone =>
        refine h.setPort ⟨?_, ?_⟩ rfl
        · exact (h.ports p).concat (f := .reply true _) rfl (fun _ => Bool.eq_false_iff.2 hnone) nofun nofun _
        · exact (PortState.replies_concat _ _).trans (h.ports p).answered
    · next hroom =>
      have hroom : (s.ports.get p).requests.length < 4 := Nat.lt_of_not_le hroom
      refine h.setPort { h.ports p with requests := ?_, inHand := ?_ } rfl
      · simpa using hroom
      · simp

/-! ### The receiver (R154, R155) -/

theorem rxEvent {s : State} (h : s.HostOk) (p : Port) (e : RxEvent) : (rxEvent p s e).HostOk := by
  cases e with
  | discard => exact h.of_kept (.raise _ _ s)
  | accept q =>
    have htouched : (touchSession p s).HostOk := by
      unfold touchSession
      split
      · exact h
      · next hs => exact h.of_kept (.setSession (by rw [hs]; rfl))
    unfold Machine.rxEvent acceptFrame
    dsimp only
    split
    · exact htouched
    · exact htouched.requestArrival p q

theorem feed {s : State} (h : s.HostOk) (p : Port) (bs : List Byte) : (feed p bs s).HostOk := by
  have hevents : ((scan 0 bs).1.foldl (Machine.rxEvent p) s).HostOk :=
    List.foldlRecOn (motive := State.HostOk) _ _ h fun t ht e _ => ht.rxEvent p e
  exact hevents.of_kept (.setPort ⟨rfl, rfl, .refl _⟩ rfl)

theorem discardCollection {s : State} (h : s.HostOk) (p : Port) (kept : List Byte) :
    (discardCollection p kept s).HostOk :=
  (h.of_kept (.raise _ _ s)).feed p kept

theorem framingError {s : State} (h : s.HostOk) (p : Port) : (framingError p s).HostOk := by
  unfold Machine.framingError
  split
  · exact h
  · exact h.discardCollection p _

/-! ### The transmitter (R153, R159) -/

/-- A frame begins: with a reply of the session layer its request departs (R157, R159). -/
theorem beginFrame {s : State} (h : s.HostOk) (p : Port) : (beginFrame p s).HostOk := by
  unfold Machine.beginFrame
  split
  · next f _ hpick =>
    refine h.setPort ((h.ports p).begin hpick _) ?_
    unfold PortState.releaseRequest
    repeat' split
    all_goals rfl
  · exact h

theorem readyPortB {s : State} (h : s.HostOk) : (readyPortB s).HostOk := by
  unfold Machine.readyPortB
  split
  · exact h.beginFrame .b
  · split
    · have hidle : (s.setPort .b { s.ports.b with sending := none }).HostOk :=
        h.of_kept (.setPort ⟨rfl, rfl, .refl _⟩ rfl)
      exact hidle.beginFrame .b
    · exact h

theorem clockOut {s : State} (h : s.HostOk) : (clockOut s).HostOk := by
  have hspi (x : SpiTarget) : QueuesKept s { s with spi := x } := .of_frame
  unfold Machine.clockOut
  split
  · exact h.of_kept (hspi _)
  · next x _ =>
    refine (h.of_kept (hspi ⟨true, x.frame.bytes.getD x.sent Config.fillerByte⟩)).of_kept ?_
    exact .setPort (p := .b) ⟨rfl, rfl, .refl _⟩ rfl

/-! ### Resets, RECORDS frames and GAP frames -/

theorem resetPart (cause : ResetCause) (straps : Straps) (s : State) : (resetPart cause straps s).HostOk :=
  State.HostOk.of_kept ((State.hostOk_iff _).2 ⟨reset_queuesOk, reset_claimOk⟩) (.of_frame rfl rfl rfl)

/-- A frame of the reader's joins the queue in which none of its kind waits, and the reader is set anew (R30, R42). -/
theorem queueForReader {s : State} (h : s.HostOk) {p : Port} {f : Frame} (hframe : f.isSessionFrame = false)
    (hreply : f.isSessionReply = false) (hlink : f.isLinkReply = false)
    (hg : f.isGap = true → (s.ports.get p).waiting.any Frame.isGap = false)
    (hr : f.isRecords = true → (s.ports.get p).waiting.any Frame.isRecords = false) (r : Option Subscription) :
    ((s.queueFrame p f).setReader p r).HostOk := by
  have hqueued : (s.queueFrame p f).HostOk := by
    refine h.setPort ⟨(h.ports p).concat hframe (fun hx => nomatch hlink.symm.trans hx) hg hr _, ?_⟩ rfl
    refine (PortState.replies_concat _ f).trans ?_
    rw [hreply]
    exact (h.ports p).answered
  exact hqueued.of_kept .of_frame

theorem queueRecordsFrame {s t : State} (h : s.HostOk) {p : Port} (ht : execQueueRecordsFrame p s = .next t) :
    t.HostOk := by
  obtain rfl := Host.Outcome.next.inj ht
  split
  · exact h
  · dsimp only
    split
    · next hcond =>
      have hnone : (s.ports.get p).waiting.any Frame.isRecords = false := by
        simp only [maySend, Bool.and_eq_true, Bool.not_eq_true'] at hcond
        exact hcond.1.2
      exact h.queueForReader (f := .records _) rfl rfl rfl nofun (fun _ => hnone) _
    · exact h

theorem queueGapFrame {s t : State} (h : s.HostOk) {p : Port} (ht : execQueueGapFrame p s = .next t) : t.HostOk := by
  obtain rfl := Host.Outcome.next.inj ht
  split
  · exact h
  · split
    · exact h
    · split
      · next hcond =>
        have hnone : (s.ports.get p).waiting.any Frame.isGap = false := by
          simp only [Bool.and_eq_true, Bool.not_eq_true'] at hcond
          exact hcond.2
        exact h.queueForReader (f := .gap _ _ _) rfl rfl rfl (fun _ => hnone) nofun _
      · exact h

/-! ### The commands -/

/-- Every command keeps the queues and the claim. -/
theorem exec {c : Instr} {s t : State} (h : s.HostOk) (ht : exec c s = .next t) : t.HostOk := by
  cases c
  case queueRecordsFrame p => exact h.queueRecordsFrame ht
  case queueGapFrame p => exact h.queueGapFrame ht
  case classifierTakeEntry => exact h.of_kept (.execClassifierTakeEntry ht)
  case deferredSnapshotBuild => exact h.of_kept (.execDeferredSnapshotBuild ht)
  all_goals obtain rfl := Host.Outcome.next.inj ht
  case powerOnReset straps => exact .resetPart _ straps s
  case pinReset straps => exact .resetPart _ straps s
  case restartTimerExpiry straps =>
    split
    · exact h
    · split
      · exact .resetPart _ straps s
      · exact h
  case receiveByte p b stopLow =>
    cases p with
    | a =>
      dsimp only
      split
      · exact h.framingError .a
      · exact h.feed .a _
    | b => exact h.readyPortB.clockOut.feed .b _
  case selectionEnd => exact h.of_kept .of_frame
  case gapTimerExpiry p =>
    split
    · exact h
    · split
      · exact h.discardCollection p _
      · exact h
  case transmitFrameBegin p => exact h.beginFrame p
  case transmitFrameComplete p straps =>
    split
    · exact h
    · split
      · unfold restartAfter
        split
        · exact h.of_kept (.setPort ⟨rfl, rfl, .refl _⟩ rfl)
        · split
          · exact .resetPart _ straps _
          · exact h.of_kept (.setPort ⟨rfl, rfl, .refl _⟩ rfl)
      · exact h
  case unknownKindRequest p => exact h.takeRequest fun _ => .refl
  case identify p => exact h.request fun _ => .refl
  case openSession p => exact h.request (.openBlock p)
  case closeSession p => exact h.request fun _ => .endSession p
  case ping p => exact h.request fun _ => .refl
  case claim p => exact h.request (.claimBlock p)
  case releaseClaim p => exact h.request (.releaseBlock p)
  case restart p => exact h.request (.restartBlock p)
  case sessionTimerExpiry p =>
    split
    · exact h
    · split
      · exact h.of_kept (.loseSession p s)
      · exact h
  case readRecords p => exact h.request .readRecordsBlock
  case getJournalStatus p => exact h.request fun _ => .refl
  case clearJournal p => exact h.request fun _ t => .withClaim (.clearJournal t)
  case setJournalMode p => exact h.request (.setJournalModeBlock p)
  case subscribe p => exact h.request (.subscribeBlock p)
  case resume p => exact h.request (.resumeBlock p)
  case unsubscribe p => exact h.request fun _ => .endReader p
  case ack p => exact h.request (.ackBlock p)
  case dropReader p => exact h.request (.dropReaderBlock p)
  case retransmitTimerExpiry p =>
    split
    · exact h
    · split
      · exact h.of_kept (.retransmitExpiry p s)
      · exact h
  case listIncidents p => exact h.request .listIncidentsBlock
  case closeIncident p =>
    split
    · exact h
    · exact h.request (.closeIncidentBlock p)
  case quietTimerExpiry slot =>
    split
    · exact h
    · split
      · exact h.of_kept (.closeSlot _ slot _ s)
      · exact h
  case durationTimerExpiry slot =>
    split
    · exact h
    · split
      · exact h.of_kept (.closeSlot _ slot _ s)
      · exact h
  case sampleInstant pins =>
    split
    · exact h.of_kept (.sampleAll pins s)
    · exact h
  case chatterWindowExpiry i =>
    split
    · exact h.of_kept (.setLine s i _)
    · exact h
  case releaseTimerExpiry i =>
    split
    · split
      · exact h.of_kept (.releaseLine i _ s)
      · exact h
    all_goals exact h
  case heldEntryAdmission => exact h.of_kept (.admitHeld s)
  case getLines p => exact h.request fun _ => .refl
  case takeSnapshot p => exact h.request (.takeSnapshotBlock p)
  case syncEdge edge =>
    split
    · exact h.of_kept (.takePulse s)
    · exact h
  case missingPulseTimerExpiry =>
    split
    · exact h.of_kept (.setClock s _ _)
    · exact h
  case holdoverTimerExpiry => exact h.of_kept (.setClock s _ _)
  case getTime p => exact h.request fun _ => .refl
  case setTime p => exact h.request (.setTimeBlock p)
  case setTimeOptions p => exact h.request (.setTimeOptionsBlock p)
  case readRule p => exact h.request .readRuleBlock
  case writeLineRule p => exact h.request (.writeLineRuleBlock p)
  case writeGroupRule p => exact h.request (.writeGroupRuleBlock p)
  case writeGlobalRule p => exact h.request (.writeGlobalRuleBlock p)
  case copyActiveToStaged p => exact h.request fun _ t => .withClaim (.editStaged _ t)
  case switchRules p => exact h.request (.switchRulesBlock p)
  case validationCompletion syncRead =>
    split
    · split
      · exact h.of_kept (.rejectSwitch _ s)
      · exact h.of_kept .of_frame
    all_goals exact h
  case switchInstant =>
    split
    · exact h.of_kept (.takeSwitchInstant s)
    · exact h
  case abortSwitch p => exact h.request (.abortSwitchBlock p)
  case getSwitchStatus p => exact h.request fun _ => .refl
  case clearAlert p => exact h.request .clearAlertBlock
  case setSessionOptions p => exact h.request (.setSessionOptionsBlock p)
  case getExceptions p => exact h.request fun _ => .refl
  case clearException p => exact h.request .clearExceptionBlock

/-- Every step keeps the queues and the claim: the passing of a microsecond touches neither. -/
theorem step {s t : State} (h : s.HostOk) (ht : step s = .next t) : t.HostOk := by
  unfold Machine.step at ht
  split at ht
  · obtain rfl := Host.Outcome.next.inj ht
    exact h.of_kept (.of_frame rfl rfl rfl)
  · next c rest _ =>
    have hrest : QueuesKept s { s with pending := rest } := .of_frame
    exact (h.of_kept hrest).exec ht

end State.HostOk

/-- Settles O54: the capacities and the claim, taken apart by port, are kept by every step. -/
theorem stepKeepsQueuesAndClaim : Obligations.StepKeepsQueuesAndClaim := by
  intro s t hq hc ht
  have h : s.HostOk := (State.hostOk_iff s).2 ⟨hq, hc⟩
  exact (State.hostOk_iff t).1 (h.step ht)

end Sys2Proof.Machine
end

section
/-!
PROOFS. The delivery unit as the statements of chapter 2 describe it: sending and going back (R29 to R31, R33, R42),
setting a reader up (R28), resuming and ending it (R38 to R40), and acknowledgement (R32). Its proofs are checked one
after another (Elab.async off), within the memory of one.
-/
namespace Sys2Proof.Machine
set_option Elab.async false

/-! ### The records of a RECORDS frame (R29) -/

/-- The newest records of a journal up to an open marker: all of them, or all but the marker (R16, R29). -/
theorem Journal.Ok.takeWhile_closed {j : Journal} (hJ : j.Ok) (k : Nat) :
    (j.held.drop k).takeWhile (fun x => !x.isOpenMarker) =
      if j.markerOpen then (j.held.drop k).dropLast else j.held.drop k := by
  cases hm : j.markerOpen with
  | false =>
    refine List.takeWhile_eq_self_iff.2 fun x hx => ?_
    rw [hJ.closed hm x (List.mem_of_mem_drop hx)]
    rfl
  | true =>
    have hclosed := hJ.marker
    rcases j with ⟨held, next, mode⟩
    rcases List.eq_nil_or_concat held with rfl | ⟨pre, m, rfl⟩
    · exact nomatch hm
    · simp only [List.concat_eq_append, List.dropLast_concat] at hclosed ⊢
      have hopen : m.isOpenMarker = true := by
        simpa [Journal.markerOpen_eq, List.concat_eq_append] using hm
      by_cases hk : k ≤ pre.length
      · have hpre : ∀ x ∈ pre.drop k, (!x.isOpenMarker) = true := fun x hx => by
          rw [hclosed x (List.mem_of_mem_drop hx)]
          rfl
        rw [List.drop_append_of_le_length hk, List.takeWhile_append_of_pos hpre]
        simp [hopen]
      · rw [List.drop_eq_nil_of_le (by simp; omega)]
        rfl

/-- The records of a RECORDS frame, from a send point that names a held record (R29). -/
theorem frameRecords_of_held {j : Journal} (hJ : j.Ok) {r : Subscription} (hlow : 1 ≤ (j.next - r.send).toNat)
    (hhigh : (j.next - r.send).toNat ≤ j.held.length) : frameRecords j r =
      (if j.markerOpen then (j.held.drop (j.held.length - (j.next - r.send).toNat)).dropLast
        else j.held.drop (j.held.length - (j.next - r.send).toNat)).take (min 4 (r.window - r.inFlight)) := by
  rw [frameRecords, Journal.from_, dropWhile_ne_of_run j.next r.send j.held hJ.run hJ.capacity, if_pos ⟨hlow, hhigh⟩,
    hJ.takeWhile_closed]

/-- With no held record at the send point there is no RECORDS frame (R29). -/
theorem frameRecords_of_not_held {j : Journal} (hJ : j.Ok) {r : Subscription}
    (h : ¬ (1 ≤ (j.next - r.send).toNat ∧ (j.next - r.send).toNat ≤ j.held.length)) : frameRecords j r = [] := by
  rw [frameRecords, Journal.from_, dropWhile_ne_of_run j.next r.send j.held hJ.run hJ.capacity, if_neg h,
    List.takeWhile_nil, List.take_nil]

/-- The conditions of R29 on the reader and its port. -/
theorem maySend_iff {waiting : List Frame} {r : Subscription} : maySend waiting r = true ↔
    r.state = .active ∧ r.inFlight < r.window ∧ r.gap = none ∧ ∀ xs, .records xs ∉ waiting := by
  have hnone : waiting.any Frame.isRecords = false ↔ ∀ xs, Frame.records xs ∉ waiting := by
    rw [List.any_eq_false]
    refine ⟨fun h xs hm => h _ hm rfl, fun h f hm => ?_⟩
    cases f with
    | records xs => exact absurd hm (h xs)
    | _ => exact Bool.false_ne_true
  simp [maySend, hnone, and_assoc]

/-- No GAP frame waits (R42). -/
theorem any_isGap_eq_false_iff {waiting : List Frame} :
    waiting.any Frame.isGap = false ↔ ∀ x y z, Frame.gap x y z ∉ waiting := by
  rw [List.any_eq_false]
  refine ⟨fun h x y z hm => h _ hm rfl, fun h f hm => ?_⟩
  cases f with
  | gap x y z => exact absurd hm (h x y z)
  | _ => exact Bool.false_ne_true

/-! ### Sending (R29 to R31, R42) -/

/-- QUEUE_RECORDS_FRAME for a subscribed reader (R29, R30). -/
theorem exec_queueRecordsFrame {p : Port} {s : State} {r : Subscription} (hr : s.readers.get p = some r) :
    exec (.queueRecordsFrame p) s = .next
      (if maySend (s.ports.get p).waiting r = true ∧ frameRecords s.journal r ≠ [] then
        (s.queueFrame p (.records (frameRecords s.journal r))).setReader p
          (some (r.queued s.clock.uptime (frameRecords s.journal r).length))
      else s) := by
  simp only [exec, execQueueRecordsFrame, hr, Bool.and_eq_true, Bool.not_eq_true', List.isEmpty_eq_false_iff]

/-- A reader's send point moves past the records queued, and a stopped timer starts (R30, R31). -/
theorem Subscription.queued_eq (now : Uptime) (n : Nat) (r : Subscription) : r.queued now n = { r with
    send := r.send + BitVec.ofNat 32 n
    timer := some (r.timer.getD (now + BitVec.ofNat 48 (r.timeoutMs * 1000))) } := by
  unfold Subscription.queued
  cases r.timer <;> rfl

/-- QUEUE_GAP_FRAME for a reader with a pending gap (R42). -/
theorem exec_queueGapFrame {p : Port} {s : State} {r : Subscription} {first last : Seq}
    (hr : s.readers.get p = some r) (hg : r.gap = some (first, last)) : exec (.queueGapFrame p) s = .next
      (if r.state ≠ .dormant ∧ (s.ports.get p).waiting.any Frame.isGap = false then
        (s.queueFrame p (.gap first last r.ack)).setReader p (some { r with gap := none })
      else s) := by
  simp only [exec, execQueueGapFrame, hr, hg, Bool.and_eq_true, Bool.not_eq_true', Subscription.awake, bne_iff_ne]

/-! ### Going back (R33) -/

/-- RETRANSMIT_TIMER_EXPIRY for an ACTIVE reader whose timer runs (R33). -/
theorem exec_retransmitTimerExpiry {p : Port} {s : State} {r : Subscription} {d : Uptime}
    (hr : s.readers.get p = some r) (hs : r.state = .active) (hd : r.timer = some d) :
    exec (.retransmitTimerExpiry p) s =
      .next (if reached s.clock.uptime d = true then retransmitExpiry p s else s) := by
  simp [exec, execRetransmitTimerExpiry, hr, hs, hd, expired]

/-- The expiry: below the eighth the reader goes back, at the eighth it stalls (R33). -/
theorem retransmitExpiry_eq {p : Port} {s : State} {r : Subscription} (hr : s.readers.get p = some r) :
    (r.retry < 7 → retransmitExpiry p s = (withdrawRecords p s).setReader p
      (some { r with retry := r.retry + 1, send := r.ack + 1, timer := none })) ∧
    (7 ≤ r.retry → ∃ x, (withdrawRecords p s).readers.get p = some x ∧ retransmitExpiry p s =
      raise .deliveryStalled (.port p) ((withdrawRecords p s).setReader p
        (some { x with retry := r.retry + 1, state := .stalled, timer := none }))) := by
  obtain ⟨x, hx, hxr⟩ := reader_withdrawRecords hr
  have hretry : x.retry = r.retry := by rw [hxr]
  refine ⟨fun hlow => ?_, fun hhigh => ⟨x, hx, ?_⟩⟩
  · have hlow : r.retry + 1 < Config.retryLimit := Nat.succ_lt_succ hlow
    simp only [retransmitExpiry, hx, Subscription.retried, hretry, if_pos hlow]
    rw [hxr]
    rfl
  · have hhigh : ¬ r.retry + 1 < Config.retryLimit := Nat.not_lt.2 (Nat.succ_le_succ hhigh)
    simp only [retransmitExpiry, hx, Subscription.retried, hretry, if_neg hhigh]

/-- Settles O27: the three commands by the reader's conditions. -/
theorem readerSendsAndGoesBack : Obligations.ReaderSendsAndGoesBack := by
  refine ⟨fun p s r hJ hr => ?_, fun p s => ⟨fun r first last hr hs hg hnone => ?_, fun hnot => ?_⟩,
    fun p s r d hr hs hd => ?_⟩
  · intro flight below from_ rs ready
    have hrecords (hlow : 1 ≤ below) (hhigh : below ≤ s.journal.held.length) : frameRecords s.journal r = rs :=
      frameRecords_of_held hJ hlow hhigh
    have hexec := exec_queueRecordsFrame hr
    refine ⟨fun ⟨hs, hflight, hgap, hnone, hlow, hhigh, hne⟩ => ?_, fun hnot => ?_⟩
    · rw [hexec, hrecords hlow hhigh, if_pos ⟨maySend_iff.2 ⟨hs, hflight, hgap, hnone⟩, hne⟩,
        Subscription.queued_eq]
      rfl
    · rw [hexec, if_neg]
      rintro ⟨hmay, hne⟩
      obtain ⟨hs, hflight, hgap, hnone⟩ := maySend_iff.1 hmay
      by_cases hheld : 1 ≤ below ∧ below ≤ s.journal.held.length
      · obtain ⟨hlow, hhigh⟩ := hheld
        exact hnot ⟨hs, hflight, hgap, hnone, hlow, hhigh, hrecords hlow hhigh ▸ hne⟩
      · exact hne (frameRecords_of_not_held hJ hheld)
  · rw [exec_queueGapFrame hr hg, if_pos ⟨hs, any_isGap_eq_false_iff.2 hnone⟩]
    rfl
  · cases hr : s.readers.get p with
    | none => simp only [exec, execQueueGapFrame, hr]
    | some r =>
      cases hg : r.gap with
      | none => simp only [exec, execQueueGapFrame, hr, hg]
      | some range =>
        rw [exec_queueGapFrame hr hg, if_neg]
        rintro ⟨hs, hnone⟩
        rcases hnot r hr with hd | hd | ⟨x, y, z, hm⟩
        · exact hs hd
        · exact nomatch hg.symm.trans hd
        · exact any_isGap_eq_false_iff.1 hnone x y z hm
  · obtain ⟨hlow, hhigh⟩ := retransmitExpiry_eq hr
    rw [exec_retransmitTimerExpiry hr hs hd]
    refine ⟨fun h => by rw [h]; rfl, fun h h7 => by rw [if_pos h, hlow h7], fun h h7 => ?_⟩
    obtain ⟨x, hx, hexpiry⟩ := hhigh h7
    exact ⟨x, hx, by rw [if_pos h, hexpiry]⟩

/-! ### Setting a reader up (R28, R43) -/

/-- The fields of SUBSCRIBE are in range (R28). -/
def subscribeInRange (code window hi lo retain : Byte) : Prop :=
  code.toNat ≤ 2 ∧ 1 ≤ window.toNat ∧ window.toNat ≤ 16 ∧ 20 ≤ hi.toNat * 256 + lo.toNat ∧
    hi.toNat * 256 + lo.toNat ≤ 5000 ∧ retain.toNat ≤ 1

/-- A byte is a number when it reads as that number. -/
theorem byte_eq_iff (b c : Byte) : b = c ↔ b.toNat = c.toNat := BitVec.toNat_inj.symm

/-- The start that a code of SUBSCRIBE names (Table 10-2). -/
def namedStart (code : Byte) (n : Seq) : SubscribeStart :=
  if code = 0 then .oldest else if code = 1 then .next else .from_ n

theorem subscribeStartOf_eq (code : Byte) (n : Seq) :
    subscribeStartOf code.toNat n = if code.toNat ≤ 2 then some (namedStart code n) else none := by
  simp only [namedStart, byte_eq_iff]
  match code.toNat with
  | 0 => rfl
  | 1 => rfl
  | 2 => rfl
  | v + 3 => simp [subscribeStartOf]

/-- A byte of 0 or 1 is read as a boolean (R170). -/
theorem boolOf_eq (b : Byte) : boolOf b.toNat = if b.toNat ≤ 1 then some (b == 1) else none := by
  simp only [BEq.beq, byte_eq_iff]
  match b.toNat with
  | 0 => rfl
  | 1 => rfl
  | v + 2 => simp [boolOf]

/-- The fields of SUBSCRIBE (R28, Table 10-4). -/
theorem subscribeOf_payload (code window hi lo retain : Byte) (n : Seq) :
    (¬ subscribeInRange code window hi lo retain →
      subscribeOf (code :: (seqBytes n ++ [window, hi, lo, retain])) = none) ∧
    (subscribeInRange code window hi lo retain →
      subscribeOf (code :: (seqBytes n ++ [window, hi, lo, retain])) = some
        ⟨namedStart code n, window.toNat, hi.toNat * 256 + lo.toNat, retain == 1⟩) := by
  have hcode : fieldByte (code :: (seqBytes n ++ [window, hi, lo, retain])) 0 = code.toNat := rfl
  have hseq : fieldSeq (code :: (seqBytes n ++ [window, hi, lo, retain])) 1 = n := fieldSeq_seqBytes n _
  have hwindow : fieldByte (code :: (seqBytes n ++ [window, hi, lo, retain])) 5 = window.toNat := rfl
  have hms : fieldInt (code :: (seqBytes n ++ [window, hi, lo, retain])) 6 2 = hi.toNat * 256 + lo.toNat := by
    simp [fieldInt, seqBytes, beBytes, ofBytes]
  have hretain : fieldByte (code :: (seqBytes n ++ [window, hi, lo, retain])) 8 = retain.toNat := rfl
  simp only [subscribeOf, hcode, hseq, hwindow, hms, hretain, subscribeStartOf_eq, boolOf_eq, within, subscribeInRange]
  refine ⟨fun hnot => ?_, fun ⟨h0, h1, h2, h3, h4, h5⟩ => ?_⟩
  · rw [Option.eq_none_iff_forall_ne_some]
    intro f hf
    simp only [Option.bind_eq_bind, Option.bind_eq_some_iff, Option.ite_none_right_eq_some] at hf
    obtain ⟨_, ⟨h0, _⟩, _, ⟨⟨h1, h2⟩, _⟩, _, ⟨⟨h3, h4⟩, _⟩, _, ⟨h5, _⟩, _⟩ := hf
    exact hnot ⟨h0, h1, h2, h3, h4, h5⟩
  · have h2 : window.toNat ≤ Config.maxWindow := h2
    simp only [h0, h1, h2, h3, h4, h5, and_self, if_true, Option.bind_eq_bind, Option.bind_some]

/-- The start of a SUBSCRIBE at a named number: one that is held, or the next number (R28). -/
theorem startSeq_from (j : Journal) (n : Seq) :
    startSeq j (.from_ n) = if (j.next - n).toNat ≤ j.held.length then some n else none := by
  have hiff : (j.holds n || n == j.next) = true ↔ (j.next - n).toNat ≤ j.held.length := by
    have hnext : n = j.next ↔ (j.next - n).toNat = 0 := by
      constructor
      · rintro rfl
        simp
      · bv_omega
    rw [Bool.or_eq_true, beq_iff_eq, hnext, Journal.holds, Bool.and_eq_true, decide_eq_true_eq, decide_eq_true_eq,
      distance]
    omega
  simp only [startSeq, hiff]

/-- The sequence number that SUBSCRIBE starts at: a FROM start alone can be refused (R28). -/
theorem startSeq_namedStart (j : Journal) {code : Byte} (h : code.toNat ≤ 2) (n : Seq) :
    startSeq j (namedStart code n) = if code = 2 ∧ j.held.length < (j.next - n).toNat then none
      else some (if code = 0 then j.next - BitVec.ofNat 32 j.held.length else if code = 1 then j.next else n) := by
  have hcodes : code = 0 ∨ code = 1 ∨ code = 2 := by
    simp only [byte_eq_iff]
    show code.toNat = 0 ∨ code.toNat = 1 ∨ code.toNat = 2
    omega
  rcases hcodes with rfl | rfl | rfl
  · rfl
  · rfl
  · refine (startSeq_from j n).trans ?_
    simp only [true_and, ← Nat.not_le, ite_not]
    rfl

/-- The withdrawal of the RECORDS and GAP frames, by their rank (R159). -/
theorem withdraw_delivery (s : State) (p : Port) : s.withdraw p (fun f => f.isRecords || f.isGap) =
    s.setPort p { s.ports.get p with
      waiting := (s.ports.get p).waiting.filter fun f => decide (f.rank < 4) } := by
  have hrank : (fun f : Frame => !(f.isRecords || f.isGap)) = fun f => decide (f.rank < 4) := by
    funext f
    cases f <;> rfl
  rw [State.withdraw, hrank]

/-- Putting a request in hand leaves the waiting frames. -/
theorem waiting_putInHand (s : State) (p : Port) : ((s.putInHand p).ports.get p).waiting = (s.ports.get p).waiting := by
  simp

/-- A ready SUBSCRIBE is carried out by its block and answered (R28, R157). -/
theorem exec_subscribe {p : Port} {s : State} {q : Request} (h : Ready s p .subscribe q) {a : Answer}
    (ha : subscribeBlock p q.payload (s.putInHand p) = a) :
    exec (.subscribe p) s = .next (a.1.replied p q a.2.1 a.2.2) :=
  ha ▸ congrArg Host.Outcome.next (request_ready (subscribeBlock p) h)

/-- SUBSCRIBE with its fields in range, from a start in the journal (R28, R43). -/
theorem subscribeBlock_of_start {p : Port} {bs : List Byte} {s : State} {f : SubscribeFields} {start : Seq}
    (hf : subscribeOf bs = some f) (hs : startSeq s.journal f.start = some start) : subscribeBlock p bs s =
      (evaluateRelease ((s.setPort p { s.ports.get p with
          waiting := (s.ports.get p).waiting.filter fun f => decide (f.rank < 4) }).setReader p
        (some ⟨.active, start - 1, start, f.window, f.timeoutMs, 0, f.retain, none, none⟩)), .ok,
        .points (start - 1) start) := by
  simp only [subscribeBlock, hf, hs, subscribeReader, withdraw_delivery]
  rfl

/-- Settles O24: the fields, the start, and the reader set up anew. -/
theorem subscribeSetsReaderUp : Obligations.SubscribeSetsReaderUp := by
  intro p s q code window hi lo retain n hready hq u ms inRange start below
  obtain ⟨hbad, hgood⟩ := subscribeOf_payload code window hi lo retain n
  have hexec {a : Answer} (ha : subscribeBlock p (code :: (seqBytes n ++ [window, hi, lo, retain])) u = a) :=
    exec_subscribe hready (hq ▸ ha)
  refine ⟨fun hout => ?_, fun hin hcode hfar => ?_, fun hin hnear => ?_⟩
  · exact hexec (a := refuse .badValue u) (by simp only [subscribeBlock, hbad hout])
  · refine hexec (a := refuse .notHeld u) ?_
    have hstart := (startSeq_namedStart u.journal hin.1 n).trans (if_pos ⟨hcode, hfar⟩)
    simp only [subscribeBlock, hgood hin, hstart]
  · have hnot : ¬ (code = 2 ∧ s.journal.held.length < below) := fun ⟨hcode, hfar⟩ =>
      absurd hfar (Nat.not_lt_of_le (hnear hcode))
    have hstart := (startSeq_namedStart u.journal hin.1 n).trans (if_neg hnot)
    rw [← waiting_putInHand s p]
    exact hexec (subscribeBlock_of_start (hgood hin) hstart)

/-! ### Resuming and ending (R38 to R40) -/

/-- A ready RESUME is carried out by its block and answered (R38, R157). -/
theorem exec_resume {p : Port} {s : State} {q : Request} (h : Ready s p .resume q) {a : Answer}
    (ha : resumeBlock p q.payload (s.putInHand p) = a) : exec (.resume p) s = .next (a.1.replied p q a.2.1 a.2.2) :=
  ha ▸ congrArg Host.Outcome.next (request_ready (resumeBlock p) h)

/-- RESUME without a reader (R38). -/
theorem resumeBlock_of_none {p : Port} {s : State} (h : s.readers.get p = none) (bs : List Byte) :
    resumeBlock p bs s = refuse .notSubscribed s := by
  simp only [resumeBlock, reader_withdrawRecords_none h]

/-- RESUME with a reader: it goes back to its ack point (R38, Table 2-4). -/
theorem resumeBlock_of_some {p : Port} {s : State} {r : Subscription} (h : s.readers.get p = some r) (bs : List Byte) :
    resumeBlock p bs s = ((withdrawRecords p s).setReader p
        (some { r with state := .active, send := r.ack + 1, retry := 0, timer := none }), .ok,
      .resumed r.ack (r.ack + 1) r.window r.gap.isSome) := by
  obtain ⟨x, hx, hxr⟩ := reader_withdrawRecords h
  simp only [resumeBlock, hx, Subscription.goBack]
  rw [hxr]

/-- The end of a reader: its RECORDS and GAP frames are withdrawn, and release is evaluated (R39). -/
theorem endReader_eq (p : Port) (s : State) : endReader p s = if s.readers.get p = none then s
    else evaluateRelease ((s.setPort p { s.ports.get p with
      waiting := (s.ports.get p).waiting.filter fun f => decide (f.rank < 4) }).setReader p none) := by
  rw [← withdraw_delivery]
  cases hr : s.readers.get p with
  | none => simp only [endReader, hr, if_true]
  | some r => simp only [endReader, hr, reduceCtorEq, if_false]

/-- A ready UNSUBSCRIBE ends the port's reader (R39, R157). -/
theorem exec_unsubscribe {p : Port} {s : State} {q : Request} (h : Ready s p .unsubscribe q) :
    exec (.unsubscribe p) s = .next ((endReader p (s.putInHand p)).replied p q .ok .none) :=
  congrArg Host.Outcome.next (request_ready (unsubscribeBlock p) h)

/-- The reader that a DROP_READER names is ended (R40). -/
def dropNamed (bs : List Byte) (s : State) : Answer :=
  match portOf (fieldByte bs 0) with
  | none => refuse .badValue s
  | some reader => (endReader reader s, .ok, .none)

/-- The reader of a DROP_READER's byte, 0 for Port A and 1 for Port B (R40, Table 10-2). -/
theorem dropNamed_byte (b : Byte) (s : State) :
    (1 < b.toNat → dropNamed [b] s = refuse .badValue s) ∧ dropNamed [0] s = (endReader .a s, .ok, .none) ∧
      dropNamed [1] s = (endReader .b s, .ok, .none) := by
  refine ⟨fun hb => ?_, rfl, rfl⟩
  have hport : portOf (fieldByte [b] 0) = none := by
    show portOf b.toNat = none
    match b.toNat, hb with
    | v + 2, _ => rfl
  simp only [dropNamed, hport]

/-- A ready DROP_READER from the claimant ends the reader it names (R40, R157). -/
theorem exec_dropReader {p : Port} {s : State} {q : Request} (h : Ready s p .dropReader q)
    (hclaim : s.holdsClaim p = true) {a : Answer} (ha : dropNamed q.payload (s.putInHand p) = a) :
    exec (.dropReader p) s = .next (a.1.replied p q a.2.1 a.2.2) :=
  ha ▸ congrArg Host.Outcome.next (ready_claimed (block := dropNamed) h hclaim)

/-- Settles O25: each of the three commands by its block. -/
theorem readersResumeAndEnd : Obligations.ReadersResumeAndEnd := by
  refine ⟨fun p s q hready => ⟨fun hr => ?_, fun r hr => ?_⟩, fun p s q => ?_⟩
  · exact exec_resume hready (resumeBlock_of_none (s := s.putInHand p) hr q.payload)
  · exact exec_resume hready (resumeBlock_of_some (s := s.putInHand p) hr q.payload)
  · intro u ended
    have hended (reader : Port) : endReader reader u = ended reader := endReader_eq reader u
    refine ⟨fun hready => ?_, fun b hready hclaim hq => ?_⟩
    · exact hended p ▸ exec_unsubscribe hready
    · have hexec {a : Answer} (ha : dropNamed [b] u = a) := exec_dropReader hready hclaim (hq ▸ ha)
      obtain ⟨hbad, hportA, hportB⟩ := dropNamed_byte b u
      refine ⟨?_, ?_, fun hb => hexec (hbad hb)⟩
      · rintro rfl
        exact hended .a ▸ hexec hportA
      · rintro rfl
        exact hended .b ▸ hexec hportB

/-! ### Acknowledgement (R32) -/

/-- A ready ACK is carried out by its block and answered (R32, R157). -/
theorem exec_ack {p : Port} {s : State} {q : Request} (h : Ready s p .ack q) {a : Answer}
    (ha : ackBlock p q.payload (s.putInHand p) = a) : exec (.ack p) s = .next (a.1.replied p q a.2.1 a.2.2) :=
  ha ▸ congrArg Host.Outcome.next (request_ready (ackBlock p) h)

/-- ACK with no reader awake (R32, Table 2-3). -/
theorem ackBlock_of_not_awake {p : Port} {s : State} (h : ∀ r, s.readers.get p = some r → r.state = .dormant)
    (bs : List Byte) : ackBlock p bs s = refuse .notSubscribed s := by
  cases hr : s.readers.get p with
  | none => simp only [ackBlock, hr]
  | some r => simp only [ackBlock, hr, h r hr]

/-- ACK with a reader awake (R32, Table 2-3). -/
theorem ackBlock_of_awake {p : Port} {s : State} {r : Subscription} (hr : s.readers.get p = some r)
    (hs : r.state ≠ .dormant) (n : Seq) : ackBlock p (seqBytes n) s = ackReader p r n s := by
  have hn : fieldSeq (seqBytes n) 0 = n := by simpa only [List.append_nil] using fieldSeq_seqBytes n []
  simp only [ackBlock, hr, hn]
  cases hstate : r.state with
  | dormant => exact absurd hstate hs
  | active => rfl
  | stalled => rfl

/-- Nothing is in flight exactly when the send point follows the ack point (R26, R31). -/
theorem Subscription.inFlight_eq_zero_iff (r : Subscription) : r.inFlight = 0 ↔ r.send = r.ack + 1 := by
  unfold Subscription.inFlight
  bv_omega

/-- The reader after an ACK that moves its ack point (R31, R32). -/
theorem Subscription.acknowledge_eq (now : Uptime) (n : Seq) (r : Subscription) : r.acknowledge now n = { r with
    ack := n, retry := 0, state := .active
    timer := if r.send = n + 1 then none else some (now + BitVec.ofNat 48 (r.timeoutMs * 1000)) } := by
  simp only [Subscription.acknowledge, Subscription.inFlight_eq_zero_iff]
  rfl

/-- Settles O26: the rows of Table 2-3 from the top. -/
theorem ackMovesAckPoint : Obligations.AckMovesAckPoint := by
  intro p s q n hready hq u below
  refine ⟨fun hnot => exec_ack hready (ackBlock_of_not_awake (s := s.putInHand p) hnot q.payload), fun r hr hs => ?_⟩
  have hexec {a : Answer} (ha : ackReader p r n u = a) :=
    exec_ack hready (hq ▸ (ackBlock_of_awake (s := u) hr hs n).trans ha)
  have hrows : ackReader p r n u =
      if 2064 < below n then (u, .badAck, .ackPoint r.ack)
      else if below n ≤ below r.send then (u, .badAck, .ackPoint r.ack)
      else if below r.ack ≤ below n then (u, .ok, .ackPoint r.ack)
      else (evaluateRelease (u.setReader p (some (r.acknowledge s.clock.uptime n))), .ok, .ackPoint n) := by
    simp only [ackReader, atOrAbove, decide_eq_true_eq]
    rfl
  refine ⟨fun hbad => hexec (a := (u, .badAck, .ackPoint r.ack)) ?_, fun hband hsend hack => ?_,
    fun hband hsend hack => ?_⟩
  · rw [hrows]
    rcases hbad with hfar | hsend
    · rw [if_pos hfar]
    · rw [if_pos hsend, ite_self]
  · exact hexec (hrows.trans (by
      rw [if_neg (Nat.not_lt.2 hband), if_neg (Nat.not_le.2 hsend), if_pos hack]))
  · rw [← Subscription.acknowledge_eq]
    exact hexec (hrows.trans (by
      rw [if_neg (Nat.not_lt.2 hband), if_neg (Nat.not_le.2 hsend), if_neg (Nat.not_le.2 hack)]))

end Sys2Proof.Machine
end

section
/-!
PROOFS. The incident table and the banks, as every command leaves them (R46, R49, R53, R105, R112, R113): one inversion
lemma says all that a command does to them and to the classifier's hand. Its proofs are checked one after another
(Elab.async off), within the memory of one.
-/
namespace Sys2Proof.Machine
set_option Elab.async false

/-! ### The close of all open incidents (R62) -/

@[simp] theorem closeSlot_incidents (r : CloseReason) (i : SlotNo) (x : Incident) (s : State) :
    (closeSlot r i x s).incidents = { s.incidents with slots := s.incidents.slots.set i none } := by
  simp [closeSlot]

/-- A slot's part of the close of all, in the record of Table 3-7 (R62). -/
theorem closeForSwitch_eq (acc : State × Nat) (i : SlotNo) : closeForSwitch acc i =
    match acc.1.incidents.slots[i] with
    | some x => (closeSlot .ruleset i x acc.1, acc.2 + 1)
    | none => acc := by
  unfold closeForSwitch
  cases acc.1.incidents.slots[i] <;> rfl

/-- After a slot's part that slot is FREE, and every other is as it was (R62). -/
theorem slots_closeForSwitch (acc : State × Nat) (i j : SlotNo) : (closeForSwitch acc i).1.incidents.slots[j] =
    if j = i then none else acc.1.incidents.slots[j] := by
  rw [closeForSwitch_eq]
  split
  · simp [Vector.getElem_set, Fin.ext_iff, eq_comm]
  · next hi =>
    split
    · next hj => rw [hj, hi]
    · rfl

/-- The slots of a list are FREE after their parts of the close of all, and the others as they were (R62). -/
theorem slots_foldl_closeForSwitch (l : List SlotNo) (acc : State × Nat) (j : SlotNo) :
    (l.foldl closeForSwitch acc).1.incidents.slots[j] = if j ∈ l then none else acc.1.incidents.slots[j] := by
  induction l generalizing acc with
  | nil => rfl
  | cons i l ih =>
    rw [List.foldl_cons, ih, slots_closeForSwitch]
    by_cases hl : j ∈ l <;> simp [hl]

/-- The close of all leaves every slot FREE (R62). -/
theorem slots_closeAllIncidents (s : State) (j : SlotNo) : (closeAllIncidents s).1.incidents.slots[j] = none := by
  rw [closeAllIncidents, slots_foldl_closeForSwitch, if_pos (List.mem_finRange j)]

/-! ### What the other operations leave -/

/-- The banks, the incident table and the classifier's hand. -/
def State.correlation (s : State) : RuleStore × IncidentUnit × Option InHand :=
  (s.rules, s.incidents, s.classifier.inHand)

theorem State.correlation_eq_iff {s t : State} : t.correlation = s.correlation ↔
    t.rules = s.rules ∧ t.incidents = s.incidents ∧ t.classifier.inHand = s.classifier.inHand := by
  simp [State.correlation]

/-- What leaves banks, incident table and classifier, by its frame, leaves the three as they were. -/
theorem State.correlation_congr {s t : State} (hr : t.rules = s.rules := by simp)
    (hi : t.incidents = s.incidents := by simp) (hc : t.classifier = s.classifier := by simp) :
    t.correlation = s.correlation := by
  rw [State.correlation, hr, hi, hc]
  rfl

/-- A block that needs the claim leaves what it leaves with the claim (R165). -/
theorem correlation_withClaim {p : Port} {s : State} {a : Answer} (h : a.1.correlation = s.correlation) :
    (withClaim p s a).1.correlation = s.correlation :=
  withClaim_keeps State.correlation h

/-- A request step leaves what its block leaves (R157). -/
theorem correlation_request {s : State} {p : Port} {k : RequestKind} {block : List Byte → State → Answer}
    (hb : ∀ bs t, (block bs t).1.correlation = t.correlation) : (request p k block s).correlation = s.correlation :=
  request_keeps State.correlation (fun _ _ => rfl) hb

theorem correlation_openBlock (p : Port) (bs : List Byte) (s : State) :
    (openBlock p bs s).1.correlation = s.correlation := by
  unfold openBlock
  split
  · rfl
  · split
    · rfl
    · exact State.correlation_congr

theorem correlation_claimBlock (p : Port) (bs : List Byte) (s : State) :
    (claimBlock p bs s).1.correlation = s.correlation := by
  unfold claimBlock
  split
  · rfl
  · split <;> rfl

theorem correlation_releaseBlock (p : Port) (bs : List Byte) (s : State) :
    (releaseBlock p bs s).1.correlation = s.correlation := by
  unfold releaseBlock
  split <;> rfl

theorem correlation_restartBlock (p : Port) (bs : List Byte) (s : State) :
    (restartBlock p bs s).1.correlation = s.correlation := by
  refine correlation_withClaim ?_
  split <;> rfl

theorem correlation_readRecordsBlock (bs : List Byte) (s : State) :
    (readRecordsBlock bs s).1.correlation = s.correlation := by
  unfold readRecordsBlock
  split
  · rfl
  · split <;> rfl

theorem correlation_setJournalModeBlock (p : Port) (bs : List Byte) (s : State) :
    (setJournalModeBlock p bs s).1.correlation = s.correlation := by
  refine correlation_withClaim ?_
  split
  · rfl
  · unfold setMode
    split
    · rfl
    · rfl
    · rfl
    · split <;> rfl

theorem correlation_subscribeBlock (p : Port) (bs : List Byte) (s : State) :
    (subscribeBlock p bs s).1.correlation = s.correlation := by
  unfold subscribeBlock
  split
  · rfl
  · split
    · rfl
    · exact State.correlation_congr

theorem correlation_resumeBlock (p : Port) (bs : List Byte) (s : State) :
    (resumeBlock p bs s).1.correlation = s.correlation := by
  unfold resumeBlock
  dsimp only
  split
  · rfl
  · exact State.correlation_congr

theorem correlation_ackBlock (p : Port) (bs : List Byte) (s : State) :
    (ackBlock p bs s).1.correlation = s.correlation := by
  have hack (r : Subscription) : (ackReader p r (fieldSeq bs 0) s).1.correlation = s.correlation := by
    unfold ackReader
    split
    · rfl
    · split
      · rfl
      · split
        · rfl
        · exact State.correlation_congr
  unfold ackBlock
  split
  · rfl
  · split
    · rfl
    · exact hack _
    · exact hack _

theorem correlation_dropReaderBlock (p : Port) (bs : List Byte) (s : State) :
    (dropReaderBlock p bs s).1.correlation = s.correlation := by
  refine correlation_withClaim ?_
  split
  · rfl
  · exact State.correlation_congr

theorem correlation_listIncidentsBlock (bs : List Byte) (s : State) :
    (listIncidentsBlock bs s).1.correlation = s.correlation := by
  unfold listIncidentsBlock
  split <;> rfl

theorem correlation_takeSnapshotBlock (p : Port) (bs : List Byte) (s : State) :
    (takeSnapshotBlock p bs s).1.correlation = s.correlation := by
  unfold takeSnapshotBlock
  split <;> rfl

theorem correlation_setTimeBlock (p : Port) (bs : List Byte) (s : State) :
    (setTimeBlock p bs s).1.correlation = s.correlation := by
  refine correlation_withClaim ?_
  split
  · rfl
  · exact State.correlation_congr

theorem correlation_setTimeOptionsBlock (p : Port) (bs : List Byte) (s : State) :
    (setTimeOptionsBlock p bs s).1.correlation = s.correlation := by
  refine correlation_withClaim ?_
  split
  · rfl
  · split
    · rfl
    · exact State.correlation_congr

theorem correlation_readRuleBlock (bs : List Byte) (s : State) :
    (readRuleBlock bs s).1.correlation = s.correlation := by
  unfold readRuleBlock
  split <;> rfl

theorem correlation_switchRulesBlock (p : Port) (bs : List Byte) (s : State) :
    (switchRulesBlock p bs s).1.correlation = s.correlation := by
  refine correlation_withClaim ?_
  split <;> rfl

theorem correlation_abortSwitchBlock (p : Port) (bs : List Byte) (s : State) :
    (abortSwitchBlock p bs s).1.correlation = s.correlation := by
  refine correlation_withClaim ?_
  split
  · exact State.correlation_congr
  · rfl
  · rfl

theorem correlation_clearAlertBlock (bs : List Byte) (s : State) :
    (clearAlertBlock bs s).1.correlation = s.correlation := by
  unfold clearAlertBlock
  split
  · rfl
  · split <;> rfl

theorem correlation_setSessionOptionsBlock (p : Port) (bs : List Byte) (s : State) :
    (setSessionOptionsBlock p bs s).1.correlation = s.correlation := by
  have halerts (was now : Bool) (t : State) : (applyAlertFrames p was now t).correlation = t.correlation := by
    unfold applyAlertFrames
    split <;> rfl
  have hnotices (ses : Session) (was now : Bool) (t : State) :
      (applyNotices p ses was now t).correlation = t.correlation := by
    unfold applyNotices
    split
    · exact State.correlation_congr
    · split <;> rfl
  unfold setSessionOptionsBlock
  split
  · rfl
  · rfl
  · exact (hnotices _ _ _ _).trans (halerts _ _ _)

theorem correlation_clearExceptionBlock (bs : List Byte) (s : State) :
    (clearExceptionBlock bs s).1.correlation = s.correlation := by
  unfold clearExceptionBlock
  split
  · rfl
  · dsimp only
    split
    · exact State.correlation_congr
    · rfl

theorem correlation_sampleAll (pins : BitVec 32) (s : State) : (sampleAll pins s).correlation = s.correlation := by
  have hprime (i : LineNo) (level : Level) (t : State) : (primeLine i level t).correlation = t.correlation := rfl
  have htake (i : LineNo) (level : Level) (changes : Bool) (t : State) :
      (takeSample i level changes t).correlation = t.correlation := by
    unfold takeSample
    split
    · rfl
    · split
      · rfl
      · exact State.correlation_congr
    · exact State.correlation_congr
    · exact State.correlation_congr
  refine foldl_keeps State.correlation _ (fun t i => ?_) _ _
  unfold sampleLine
  dsimp only
  split
  · exact htake _ _ _ _
  · rfl

/-! ### All that a command can do to them -/

/-- The records of an entry behind the first one to build: no LINE_CHANGE among them, and an INCIDENT_CLOSE only during
the action of a call that an earlier record took (R49, R113). -/
def EntryInHand.Ordered (h : EntryInHand) : Prop :=
  ∀ r rest, h.left = r :: rest →
    .lineChange ∉ rest ∧ ∀ c, .incidentClose c ∈ rest → r ≠ .lineChange ∧ h.called = true

/-- The entry is classified under the ACTIVE line entry of its line (R113). -/
def State.RuleOf (s : State) (h : EntryInHand) : Prop := h.rule = s.rules.active.lines[h.edge.line]

/-- An entry held in a hand is in order and classified under the ACTIVE line entry of its line (R113). -/
def State.HandOk (s : State) (hand : Option InHand) : Prop :=
  ∀ h, hand = some (.entry h) → h.Ok ∧ s.RuleOf h

theorem State.handOk_none (s : State) : s.HandOk none := by
  rintro _ ⟨⟩

theorem State.handOk_marker (s : State) (m : MarkerInHand) : s.HandOk (some (.marker m)) := by
  rintro _ ⟨⟩

/-- What a command makes of the banks, the incident table and the classifier's hand. -/
inductive RulesStep (s t : State) : Prop where
  /-- All three stay. -/
  | kept (h : t.correlation = s.correlation)
  /-- The part resets. -/
  | reset (cause : ResetCause) (straps : Straps) (u : State) (h : t = resetPart cause straps u)
  /-- A request from the claimant writes the STAGED bank, with entries in range (R107 to R109). -/
  | edited (b : Bank) (hb : s.rules.active.inRange → s.rules.staged.inRange → b.inRange)
      (h : t.correlation = ({ s.rules with staged := b }, s.incidents, s.classifier.inHand))
  /-- An incident closes, by a timer or a request (R56, R57, R60). -/
  | closed (i : SlotNo)
      (h : t.correlation = (s.rules, { s.incidents with slots := s.incidents.slots.set i none }, s.classifier.inHand))
  /-- The classifier takes an entry or builds a record without an incident call; an entry it then holds is in order
  (R113, R117, R118). -/
  | handled (hand : Option InHand) (hh : s.HandOk hand)
      (h : t.correlation = (s.rules, s.incidents, hand))
  /-- The classifier goes on with an entry, which it held or has just taken (R113 to R116). -/
  | carried (u : State) (e : EntryInHand) (he : s.InHandOk → e.Ordered ∧ s.RuleOf e)
      (hu : u.correlation = (s.rules, s.incidents, none)) (h : t = carryOn e u)
  /-- The switch instant: the STAGED entries in both banks, and no incident open (R62, R112). -/
  | switched (g : Generation) (x : IncidentUnit) (hx : ∀ j : SlotNo, x.slots[j] = none)
      (h : t.correlation = (⟨s.rules.staged, s.rules.staged, g⟩, x, none))

/-! ### The fields of an edit are in range (R107, R108) -/

theorem within_eq_some {lo hi n m : Nat} (h : within lo hi n = some m) : lo ≤ m ∧ m ≤ hi := by
  unfold within at h
  split at h
  · next hn =>
    cases h
    exact hn
  · exact nomatch h

/-- A line entry read from a request is in range (Table 6-2). -/
theorem lineRuleOf_inRange {bs : List Byte} {r : LineRule} (h : lineRuleOf bs = some r) : r.inRange := by
  simp only [lineRuleOf, Option.bind_eq_bind, Option.bind_eq_some_iff] at h
  obtain ⟨_, -, _, -, debounce, hdebounce, limit, hlimit, window, hwindow, release, hrelease, _, -, _, -, _, -, _, -,
    _, -, hr⟩ := h
  cases hr
  refine ⟨within_eq_some hdebounce, ?_, within_eq_some hwindow, within_eq_some hrelease⟩
  unfold chatterLimitOf at hlimit
  split at hlimit
  · exact .inl (Option.some.inj hlimit).symm
  · exact .inr (within_eq_some hlimit)

/-- A group entry read from a request is in range (Table 3-5). -/
theorem groupRuleOf_inRange {bs : List Byte} {r : GroupRule} (h : groupRuleOf bs = some r) : r.inRange := by
  simp only [groupRuleOf, Option.bind_eq_bind, Option.bind_eq_some_iff] at h
  obtain ⟨settle, hsettle, duration, hduration, limit, hlimit, hr⟩ := h
  cases hr
  refine ⟨within_eq_some hsettle, ?_, within_eq_some hlimit⟩
  unfold maxDurationOf at hduration
  split at hduration
  · exact .inl (Option.some.inj hduration).symm
  · exact .inr (within_eq_some hduration)

/-- A bank in range stays so with a line entry in range written (R107). -/
theorem Bank.inRange.setLine {b : Bank} (h : b.inRange) (i : LineNo) {r : LineRule} (hr : r.inRange) :
    Bank.inRange { b with lines := b.lines.set i r } := by
  refine ⟨fun j => ?_, h.2⟩
  simp only [Fin.getElem_fin, Vector.getElem_set]
  split
  · exact hr
  · exact h.1 j

/-- A bank in range stays so with a group entry in range written (R108). -/
theorem Bank.inRange.setGroup {b : Bank} (h : b.inRange) (g : GroupNo) {r : GroupRule} (hr : r.inRange) :
    Bank.inRange { b with groups := b.groups.set g r } := by
  refine ⟨h.1, fun j => ?_⟩
  simp only [Fin.getElem_fin, Vector.getElem_set]
  split
  · exact hr
  · exact h.2 j

/-! ### The requests that take part -/

/-- What leaves banks, incident table and classifier, by its frame. -/
theorem RulesStep.of_frame {s t : State} (hr : t.rules = s.rules := by simp)
    (hi : t.incidents = s.incidents := by simp) (hc : t.classifier = s.classifier := by simp) : RulesStep s t :=
  .kept (State.correlation_congr hr hi hc)

/-- A request step leaves the three as they were, or as its block does (R157). -/
theorem correlation_request_or {s : State} {p : Port} {k : RequestKind} (block : List Byte → State → Answer) :
    (request p k block s).correlation = s.correlation ∨
      ∃ bs u, u.correlation = s.correlation ∧ (request p k block s).correlation = (block bs u).1.correlation := by
  unfold request takeRequest
  split
  · exact .inl rfl
  · split
    · dsimp only
      split
      · exact .inl rfl
      · unfold carryOut
        split
        · exact .inl rfl
        · split
          · exact .inl rfl
          · exact .inr ⟨_, s.putInHand p, rfl, rfl⟩
    · exact .inl rfl

/-- The STAGED bank is written, with entries in range where both banks are (R107). -/
def Edited (s t : State) : Prop :=
  ∃ b : Bank, (s.rules.active.inRange → s.rules.staged.inRange → b.inRange) ∧
    t.correlation = ({ s.rules with staged := b }, s.incidents, s.classifier.inHand)

/-- A change that leaves the three as they were writes the STAGED bank as it was. -/
theorem Edited.of_kept {s t : State} (h : t.correlation = s.correlation) : Edited s t :=
  ⟨s.rules.staged, fun _ h => h, h⟩

theorem Edited.withClaim {p : Port} {s : State} {a : Answer} (h : Edited s a.1) : Edited s (withClaim p s a).1 := by
  unfold Machine.withClaim
  split
  · exact h
  · exact .of_kept rfl

theorem Edited.editStaged {edit : Bank → Bank} {s : State}
    (h : s.rules.active.inRange → s.rules.staged.inRange → (edit s.rules.staged).inRange) :
    Edited s (editStaged edit s).1 := by
  unfold Machine.editStaged
  split
  · exact .of_kept rfl
  · exact ⟨_, h, rfl⟩

theorem Edited.writeLineRuleBlock (p : Port) (bs : List Byte) (s : State) : Edited s (writeLineRuleBlock p bs s).1 := by
  refine .withClaim ?_
  split
  · exact .of_kept rfl
  · next i r hr =>
    simp only [writeLineRuleOf, Option.bind_eq_bind, Option.bind_eq_some_iff] at hr
    obtain ⟨_, -, rule, hrule, hr⟩ := hr
    cases hr
    exact .editStaged fun _ h => h.setLine _ (lineRuleOf_inRange hrule)

theorem Edited.writeGroupRuleBlock (p : Port) (bs : List Byte) (s : State) :
    Edited s (writeGroupRuleBlock p bs s).1 := by
  refine .withClaim ?_
  split
  · exact .of_kept rfl
  · next g r hr =>
    simp only [writeGroupRuleOf, Option.bind_eq_bind, Option.bind_eq_some_iff] at hr
    obtain ⟨_, -, rule, hrule, hr⟩ := hr
    cases hr
    exact .editStaged fun _ h => h.setGroup _ (groupRuleOf_inRange hrule)

theorem Edited.writeGlobalRuleBlock (p : Port) (bs : List Byte) (s : State) :
    Edited s (writeGlobalRuleBlock p bs s).1 := by
  refine .withClaim ?_
  split
  · exact .of_kept rfl
  · exact .editStaged fun _ h => h

theorem Edited.copyActiveBlock (p : Port) (bs : List Byte) (s : State) : Edited s (copyActiveBlock p bs s).1 :=
  .withClaim (.editStaged fun h _ => h)

/-- A request step that edits the STAGED bank, when its block does (R157). -/
theorem RulesStep.of_edit {s : State} {p : Port} {k : RequestKind} {block : List Byte → State → Answer}
    (hb : ∀ bs t, Edited t (block bs t).1) : RulesStep s (request p k block s) := by
  rcases correlation_request_or block with h | ⟨bs, u, hu, h⟩
  · exact .kept h
  · obtain ⟨hrules, hincidents, hhand⟩ := State.correlation_eq_iff.1 hu
    obtain ⟨b, hrange, hblock⟩ := hb bs u
    rw [hrules, hincidents, hhand] at hblock
    exact .edited b (hrules ▸ hrange) (h.trans hblock)

/-- CLOSE_INCIDENT closes one incident or none (R60). -/
theorem correlation_closeIncidentBlock (p : Port) (bs : List Byte) (s : State) :
    (closeIncidentBlock p bs s).1.correlation = s.correlation ∨ ∃ i : SlotNo, (closeIncidentBlock p bs s).1.correlation =
      (s.rules, { s.incidents with slots := s.incidents.slots.set i none }, s.classifier.inHand) := by
  unfold closeIncidentBlock withClaim
  split
  · split
    · exact .inl rfl
    · split
      · exact .inl rfl
      · next i x _ => exact .inr ⟨i, by simp [State.correlation]⟩
  · exact .inl rfl

theorem RulesStep.closeIncident (p : Port) (s : State) :
    RulesStep s (request p .closeIncident (closeIncidentBlock p) s) := by
  rcases correlation_request_or (closeIncidentBlock p) with h | ⟨bs, u, hu, h⟩
  · exact .kept h
  · obtain ⟨hrules, hincidents, hhand⟩ := State.correlation_eq_iff.1 hu
    rcases correlation_closeIncidentBlock p bs u with hblock | ⟨i, hblock⟩
    · exact .kept ((h.trans hblock).trans hu)
    · rw [hrules, hincidents, hhand] at hblock
      exact .closed i (h.trans hblock)

/-- A timer closes its incident (R56, R57). -/
theorem RulesStep.closeSlot (reason : CloseReason) (i : SlotNo) (x : Incident) (s : State) :
    RulesStep s (closeSlot reason i x s) :=
  .closed i (by simp [State.correlation])

/-! ### The classifier's commands (R113 to R118) -/

/-- The records of an entry in order, behind the first one to build (R49, R113). -/
theorem EntryInHand.Ok.ordered {h : EntryInHand} (hok : h.Ok) : h.Ordered := by
  intro r rest hl
  have halone (hm : RecordToBuild.lineChange ∈ r :: rest) : rest = [] :=
    (List.cons.inj (hl.symm.trans (hok.change (hl ▸ hm)).1)).2
  refine ⟨fun hm => ?_, fun c hm => ⟨?_, hok.close c (hl ▸ List.mem_cons_of_mem r hm)⟩⟩
  · rw [halone (List.mem_cons_of_mem r hm)] at hm
    exact nomatch hm
  · rintro rfl
    rw [halone List.mem_cons_self] at hm
    exact nomatch hm

/-- A change has a LINE_CHANGE to build, or, its edge not selected, none (R114, R117). -/
theorem edgeRecords_cases (rule : LineRule) (x : EdgeInfo) :
    edgeRecords rule x = [.lineChange] ∨ edgeRecords rule x = [] := by
  unfold edgeRecords
  split
  · exact .inl rfl
  · exact .inr rfl

/-- A CHANGE entry just taken: a LINE_CHANGE if its edge is selected, then CHATTER_ON if it locked its line out (R114 to
R116). -/
theorem ordered_of_change (rule : LineRule) (x : EdgeInfo) (lockCount : Option Nat) :
    EntryInHand.Ordered ⟨x, rule, edgeRecords rule x ++ (lockCount.map .chatterOn).toList, false⟩ := by
  intro r rest hl
  have hrest : ∀ y ∈ rest, y ∈ (lockCount.map RecordToBuild.chatterOn).toList := by
    rcases edgeRecords_cases rule x with h | h
    · simp only [h, List.cons_append, List.nil_append, List.cons.injEq] at hl
      exact fun y hy => hl.2 ▸ hy
    · simp only [h, List.nil_append] at hl
      exact fun y hy => hl ▸ List.mem_cons_of_mem r hy
  refine ⟨fun hm => ?_, fun c hm => ?_⟩
  · simpa using hrest _ hm
  · simpa using hrest _ hm

/-- A RELEASE entry that is kept in hand has the LINE_CHANGE of its change to build (R117). -/
theorem ok_of_release {rule : LineRule} {x : EdgeInfo} (hne : edgeRecords rule x ≠ []) :
    EntryInHand.Ok ⟨x, rule, edgeRecords rule x, false⟩ := by
  rw [(edgeRecords_cases rule x).resolve_right hne]
  exact ⟨List.cons_ne_nil _ _, fun _ => ⟨rfl, rfl⟩, by simp⟩

/-- What a hand holds after a record of an entry is that entry, with records left to build (R113). -/
theorem handOf_eq_some {e h : EntryInHand} (hh : handOf e = some (.entry h)) : e.left ≠ [] ∧ h = e := by
  unfold handOf at hh
  split at hh
  · exact nomatch hh
  · next hne =>
    cases hh
    exact ⟨hne, rfl⟩

/-- A RELEASE entry taken with nothing in hand (R117). -/
theorem RulesStep.classifyRelease {s u : State} (hu : u.correlation = (s.rules, s.incidents, none))
    (e : ReleaseEntry) : RulesStep s (classifyRelease u.rules.active.lines[e.line] e u) := by
  simp only [State.correlation, Prod.mk.injEq] at hu
  obtain ⟨hrules, hincidents, hhand⟩ := hu
  unfold Machine.classifyRelease
  dsimp only
  split
  · exact .handled none s.handOk_none (by simp [State.correlation, hrules, hincidents, hhand])
  · rw [keepInHand_eq _ rfl (by simp [setClassified, hhand])]
    refine .handled _ (fun h hh => ?_) (by simp [State.correlation, hrules, hincidents]; rfl)
    obtain ⟨hne, rfl⟩ := handOf_eq_some hh
    exact ⟨ok_of_release hne, rfl⟩

/-- An entry taken with nothing in hand is classified (R113 to R118). -/
theorem RulesStep.classify {s u : State} (hu : u.correlation = (s.rules, s.incidents, none)) (e : FifoEntry) :
    RulesStep s (classify e u) := by
  have hu' := hu
  simp only [State.correlation, Prod.mk.injEq] at hu'
  obtain ⟨hrules, hincidents, hhand⟩ := hu'
  unfold Machine.classify
  split
  · next c =>
    exact .carried (setClassified _ u) _ (fun _ => ⟨ordered_of_change _ _ _, by rw [State.RuleOf, hrules]⟩) hu rfl
  · next r => exact .classifyRelease hu r
  · unfold classifyMarker
    dsimp only
    split
    · exact .handled none s.handOk_none (by simp [State.correlation, hrules, hincidents, hhand])
    · exact .handled _ (s.handOk_marker _) (by simp [State.correlation, hrules, hincidents]; rfl)

/-- CLASSIFIER_TAKE_ENTRY (R113). -/
theorem RulesStep.classifierTakeEntry {s t : State} (ht : execClassifierTakeEntry s = .next t) : RulesStep s t := by
  obtain rfl := Host.Outcome.next.inj ht
  split
  · next h hh => exact .carried _ h (fun hok => ⟨(hok h hh).1.ordered, (hok h hh).2⟩) rfl rfl
  · exact .kept rfl
  · exact .kept rfl
  · next hh _ => exact .classify (by simp [State.correlation, hh]) _

/-- DEFERRED_SNAPSHOT_BUILD (R118). -/
theorem RulesStep.deferredSnapshotBuild {s t : State} (ht : execDeferredSnapshotBuild s = .next t) :
    RulesStep s t := by
  obtain rfl := Host.Outcome.next.inj ht
  split
  · exact .kept rfl
  · exact .kept rfl
  · split
    · exact .handled none s.handOk_none (by simp [State.correlation])
    · exact .kept rfl

/-! ### The switch instant (R62, R112) -/

/-- The switch instant leaves the classifier's hand as it was (R119, R129). -/
theorem switchModes_inHand (c : Classifier) (i : LineNo) (old new : Mode) :
    (c.switchModes i old new).inHand = c.inHand := by
  cases old <;> cases new <;> rfl

theorem RulesStep.switchInstant {s : State} (hh : s.classifier.inHand = none) : RulesStep s (takeSwitchInstant s) := by
  refine .switched (nextSkippingZero s.rules.generation) (closeAllIncidents s).1.incidents (slots_closeAllIncidents s) ?_
  have hhand (b : Bank) (u : State) : (classifierSwitch b u).classifier.inHand = u.classifier.inHand :=
    foldl_keeps Classifier.inHand _ (fun _ _ => switchModes_inHand _ _ _ _) _ _
  simp only [State.correlation, takeSwitchInstant, installRules, admitHeld_frame, offerSwitchDone_frame,
    endSwitch_frame, hhand, Prod.mk.injEq]
  simp [exchangeBanks, hh]

/-! ### Every command -/

/-- Every command does one of these. -/
theorem RulesStep.of_exec {c : Instr} {s t : State} (ht : exec c s = .next t) : RulesStep s t := by
  cases c
  case classifierTakeEntry => exact .classifierTakeEntry ht
  case deferredSnapshotBuild => exact .deferredSnapshotBuild ht
  all_goals obtain rfl := Host.Outcome.next.inj ht
  case powerOnReset straps => exact .reset _ straps s rfl
  case pinReset straps => exact .reset _ straps s rfl
  case restartTimerExpiry straps =>
    split
    · exact .kept rfl
    · split
      · exact .reset _ straps s rfl
      · exact .kept rfl
  case receiveByte p b stopLow =>
    cases p with
    | a =>
      dsimp only
      split
      · exact .of_frame
      · exact .of_frame
    | b => exact .of_frame
  case selectionEnd => exact .kept rfl
  case gapTimerExpiry p =>
    split
    · exact .kept rfl
    · split
      · exact .of_frame
      · exact .kept rfl
  case transmitFrameBegin p => exact .of_frame
  case transmitFrameComplete p straps =>
    split
    · exact .kept rfl
    · split
      · unfold restartAfter
        split
        · exact .kept rfl
        · split
          · exact .reset _ straps _ rfl
          · exact .kept rfl
      · exact .kept rfl
  case unknownKindRequest p =>
    exact .kept (takeRequest_induct (motive := fun t => t.correlation = s.correlation) (fun _ => id) (fun _ _ => id)
      (fun _ _ => id) (fun _ _ => id) rfl)
  case identify p => exact .kept (correlation_request fun _ _ => rfl)
  case openSession p => exact .kept (correlation_request (correlation_openBlock p))
  case closeSession p =>
    exact .kept (correlation_request fun _ t => State.correlation_congr (t := endSession p t))
  case ping p => exact .kept (correlation_request fun _ _ => rfl)
  case claim p => exact .kept (correlation_request (correlation_claimBlock p))
  case releaseClaim p => exact .kept (correlation_request (correlation_releaseBlock p))
  case restart p => exact .kept (correlation_request (correlation_restartBlock p))
  case sessionTimerExpiry p =>
    split
    · exact .kept rfl
    · split
      · exact .of_frame
      · exact .kept rfl
  case readRecords p => exact .kept (correlation_request correlation_readRecordsBlock)
  case getJournalStatus p => exact .kept (correlation_request fun _ _ => rfl)
  case clearJournal p =>
    exact .kept (correlation_request fun _ _ => correlation_withClaim State.correlation_congr)
  case setJournalMode p => exact .kept (correlation_request (correlation_setJournalModeBlock p))
  case subscribe p => exact .kept (correlation_request (correlation_subscribeBlock p))
  case resume p => exact .kept (correlation_request (correlation_resumeBlock p))
  case unsubscribe p =>
    exact .kept (correlation_request fun _ t => State.correlation_congr (t := endReader p t))
  case ack p => exact .kept (correlation_request (correlation_ackBlock p))
  case dropReader p => exact .kept (correlation_request (correlation_dropReaderBlock p))
  case queueRecordsFrame p =>
    split
    · exact .kept rfl
    · dsimp only
      split <;> exact .kept rfl
  case queueGapFrame p =>
    split
    · exact .kept rfl
    · split
      · exact .kept rfl
      · split <;> exact .kept rfl
  case retransmitTimerExpiry p =>
    split
    · exact .kept rfl
    · split
      · exact .of_frame
      · exact .kept rfl
  case listIncidents p => exact .kept (correlation_request correlation_listIncidentsBlock)
  case closeIncident p =>
    split
    · exact .kept rfl
    · exact .closeIncident p s
  case quietTimerExpiry slot =>
    split
    · exact .kept rfl
    · split
      · exact .closeSlot _ slot _ s
      · exact .kept rfl
  case durationTimerExpiry slot =>
    split
    · exact .kept rfl
    · split
      · exact .closeSlot _ slot _ s
      · exact .kept rfl
  case sampleInstant pins =>
    split
    · exact .kept (correlation_sampleAll pins s)
    · exact .kept rfl
  case chatterWindowExpiry i =>
    split
    · exact .kept rfl
    · exact .kept rfl
  case releaseTimerExpiry i =>
    split
    · split
      · exact .of_frame
      · exact .kept rfl
    all_goals exact .kept rfl
  case heldEntryAdmission => exact .of_frame
  case getLines p => exact .kept (correlation_request fun _ _ => rfl)
  case takeSnapshot p => exact .kept (correlation_request (correlation_takeSnapshotBlock p))
  case syncEdge edge =>
    split
    · exact .of_frame
    · exact .kept rfl
  case missingPulseTimerExpiry =>
    split
    · exact .of_frame
    · exact .kept rfl
  case holdoverTimerExpiry => exact .of_frame
  case getTime p => exact .kept (correlation_request fun _ _ => rfl)
  case setTime p => exact .kept (correlation_request (correlation_setTimeBlock p))
  case setTimeOptions p => exact .kept (correlation_request (correlation_setTimeOptionsBlock p))
  case readRule p => exact .kept (correlation_request correlation_readRuleBlock)
  case writeLineRule p => exact .of_edit (.writeLineRuleBlock p)
  case writeGroupRule p => exact .of_edit (.writeGroupRuleBlock p)
  case writeGlobalRule p => exact .of_edit (.writeGlobalRuleBlock p)
  case copyActiveToStaged p => exact .of_edit (.copyActiveBlock p)
  case switchRules p => exact .kept (correlation_request (correlation_switchRulesBlock p))
  case validationCompletion syncRead =>
    split
    · split
      · exact .of_frame
      · exact .kept rfl
    all_goals exact .kept rfl
  case switchInstant =>
    split
    · next hcond =>
      simp only [Bool.and_eq_true, Option.isNone_iff_eq_none] at hcond
      exact .switchInstant hcond.2
    · exact .kept rfl
  case abortSwitch p => exact .kept (correlation_request (correlation_abortSwitchBlock p))
  case getSwitchStatus p => exact .kept (correlation_request fun _ _ => rfl)
  case clearAlert p => exact .kept (correlation_request correlation_clearAlertBlock)
  case setSessionOptions p => exact .kept (correlation_request (correlation_setSessionOptionsBlock p))
  case getExceptions p => exact .kept (correlation_request fun _ _ => rfl)
  case clearException p => exact .kept (correlation_request correlation_clearExceptionBlock)

end Sys2Proof.Machine
end

section
/-!
PROOFS. The banks stay in range, open incidents keep below their member limits with one group each, and the entry in hand
stays in order (R46, R49, R53, R105, R113): each is kept by all that a command does.
-/
namespace Sys2Proof.Machine

/-! ### Open incidents (R46, R53) -/

/-- A slot after another, or the same, has taken a new content. -/
theorem getElem_setSlot (v : Vector (Option Incident) 8) (i j : SlotNo) (x : Option Incident) :
    (v.set i x)[j] = if j = i then x else v[j] := by
  simp only [Fin.getElem_fin, Vector.getElem_set, Fin.ext_iff, eq_comm]

/-- The invariant of the banks and the incidents depends on them alone. -/
theorem State.RulesOk.of_eq {s t : State} (h : s.RulesOk) (hr : t.rules = s.rules) (hi : t.incidents = s.incidents) :
    t.RulesOk where
  active := hr ▸ h.active
  staged := hr ▸ h.staged
  members := by rw [hr, hi]; exact h.members
  groups := by rw [hi]; exact h.groups

/-- With no incident open the banks alone count. -/
theorem State.RulesOk.of_free {s : State} (ha : s.rules.active.inRange) (hs : s.rules.staged.inRange)
    (hi : ∀ j : SlotNo, s.incidents.slots[j] = none) : s.RulesOk where
  active := ha
  staged := hs
  members i _ hx := nomatch (hi i).symm.trans hx
  groups i _ _ _ hx := nomatch (hi i).symm.trans hx

/-- An incident with members below the limit of its group, the only one of its group, is put in a slot; or a slot is
freed (R46, R53). -/
theorem State.RulesOk.setSlot {s t : State} (h : s.RulesOk) (hr : t.rules = s.rules) (i : SlotNo)
    {x : Option Incident} (ht : t.incidents.slots = s.incidents.slots.set i x)
    (hm : ∀ y, x = some y → 1 ≤ y.members ∧ y.members < (s.rules.active.groups[y.group]).memberLimit)
    (hg : ∀ y, x = some y → ∀ (j : SlotNo) (z : Incident), s.incidents.slots[j] = some z → z.group = y.group → j = i) :
    t.RulesOk where
  active := hr ▸ h.active
  staged := hr ▸ h.staged
  members j y hy := by
    rw [ht, getElem_setSlot] at hy
    rw [hr]
    split at hy
    · exact hm y hy
    · exact h.members j y hy
  groups j k y z hy hz heq := by
    rw [ht, getElem_setSlot] at hy hz
    split at hy
    · next hj =>
      split at hz
      · next hk => rw [hj, hk]
      · rw [hj, hg y hy k z hz heq.symm]
    · split at hz
      · next hk => rw [hk, hg z hz j y hy heq]
      · exact h.groups j k y z hy hz heq

/-- A slot is freed (R55). -/
theorem State.RulesOk.freeSlot {s t : State} (h : s.RulesOk) (hr : t.rules = s.rules) (i : SlotNo)
    (ht : t.incidents.slots = s.incidents.slots.set i none) : t.RulesOk :=
  h.setSlot hr i ht nofun nofun

/-! ### Incident calls (R48 to R54) -/

/-- The end of a call closes the incident or leaves it in its slot (R48, R53). -/
theorem finishCall_incidents (i : SlotNo) (x : Incident) (opened : Bool) (reason : Option CloseReason) (s : State) :
    (finishCall i x opened reason s).1.incidents =
      { s.incidents with slots := s.incidents.slots.set i (if reason = none then some x else none) } := by
  unfold finishCall
  cases reason <;> rfl

/-- A member limit not met gives no reason to close (R53). -/
theorem limitReason_eq_none_iff {rule : GroupRule} {x : Incident} :
    limitReason rule x = none ↔ x.members ≠ rule.memberLimit := by
  unfold limitReason
  split <;> simp_all

/-- The end of a call keeps the incidents in order: at the member limit the incident closes (R53). -/
theorem State.RulesOk.finishCall {s : State} (h : s.RulesOk) {i : SlotNo} {x : Incident} {reason : Option CloseReason}
    {rule : GroupRule} (hrule : s.rules.active.groups[x.group] = rule) (hlow : 1 ≤ x.members)
    (hhigh : x.members ≤ rule.memberLimit) (hr : reason = none → x.members ≠ rule.memberLimit)
    (hg : ∀ (j : SlotNo) (z : Incident), s.incidents.slots[j] = some z → z.group = x.group → j = i) (opened : Bool) :
    (finishCall i x opened reason s).1.RulesOk := by
  refine h.setSlot (by simp) i (congrArg IncidentUnit.slots (finishCall_incidents i x opened reason s)) ?_ ?_
  · intro y hy
    split at hy
    · next hreason =>
      cases hy
      exact ⟨hlow, hrule ▸ Nat.lt_of_le_of_ne hhigh (hr hreason)⟩
    · exact nomatch hy
  · intro y hy
    split at hy
    · cases hy
      exact hg
    · exact nomatch hy

@[simp] theorem Incident.join_members (rule : GroupRule) (c : Call) (x : Incident) :
    (x.join rule c).members = x.members + 1 := by
  unfold Incident.join
  dsimp only
  split <;> split <;> rfl

@[simp] theorem Incident.join_group (rule : GroupRule) (c : Call) (x : Incident) :
    (x.join rule c).group = x.group := by
  unfold Incident.join
  dsimp only
  split <;> split <;> rfl

/-- The slot of a group holds an open incident of the group (R48). -/
theorem slotOfGroup_some {u : IncidentUnit} {g : GroupNo} {i : SlotNo} {x : Incident}
    (h : u.slotOfGroup g = some (i, x)) : u.slots[i] = some x ∧ x.group = g := by
  obtain ⟨j, -, hj⟩ := List.exists_of_findSome?_eq_some h
  split at hj
  · next y hy =>
    split at hj
    · next hg =>
      cases hj
      exact ⟨hy, hg⟩
    · exact nomatch hj
  · exact nomatch hj

/-- A group has no slot when no open incident is of it, and only then (R48). -/
theorem slotOfGroup_eq_none_iff {u : IncidentUnit} {g : GroupNo} :
    u.slotOfGroup g = none ↔ ∀ (j : SlotNo) (y : Incident), u.slots[j] = some y → y.group ≠ g := by
  rw [IncidentUnit.slotOfGroup, List.findSome?_eq_none_iff]
  refine ⟨fun h j y hy hg => ?_, fun h j _ => ?_⟩
  · have := h j (List.mem_finRange j)
    simp [hy, hg] at this
  · split
    · next y hy => rw [if_neg (h j y hy)]
    · rfl

/-- A join keeps the incidents in order (R52 to R54). -/
theorem State.RulesOk.joinCall {s : State} (h : s.RulesOk) {c : Call} {i : SlotNo} {x : Incident}
    (hx : s.incidents.slots[i] = some x) (hg : x.group = c.group) : (joinCall c i x s).1.RulesOk := by
  obtain ⟨-, hhigh⟩ := h.members i x hx
  have hrule : s.rules.active.groups[x.group] = s.rules.active.groups[c.group] := by simp only [hg]
  rw [hrule] at hhigh
  refine h.finishCall (rule := s.rules.active.groups[c.group]) (by simp [hg]) (by simp) (by simpa using hhigh) ?_ ?_ _
  · intro hreason
    split at hreason
    · exact nomatch hreason
    · exact limitReason_eq_none_iff.1 hreason
  · intro j z hz hzg
    exact h.groups j i z x hz hx (by simpa using hzg)

/-- The opening of an incident keeps the incidents in order, where its group has none open (R50, R53). -/
theorem State.RulesOk.openCall {s : State} (h : s.RulesOk) {c : Call}
    (hnone : ∀ (j : SlotNo) (y : Incident), s.incidents.slots[j] = some y → y.group ≠ c.group) :
    (openCall c s).1.RulesOk := by
  have hnext : State.RulesOk { s with incidents := { s.incidents with
      nextId := nextSkippingZero (s.incidents.freeId 8 s.incidents.nextId) } } :=
    ⟨h.active, h.staged, h.members, h.groups⟩
  have hlimit := (h.active.2 c.group).2.2.1
  unfold Machine.openCall
  split
  · exact h.of_eq (by simp) (by simp)
  · exact hnext.finishCall (x := openedIncident _ _ c) rfl le_rfl hlimit limitReason_eq_none_iff.1
      (fun j z hz hg => (hnone j z hz hg).elim) _

/-- An incident call keeps the incidents in order (R48 to R54). -/
theorem State.RulesOk.incidentCall {s : State} (h : s.RulesOk) (c : Call) : (incidentCall c s).1.RulesOk := by
  unfold Machine.incidentCall
  split
  · next hslot =>
    obtain ⟨hx, hg⟩ := slotOfGroup_some hslot
    exact h.joinCall hx hg
  · next hnone =>
    split
    · exact h.openCall (slotOfGroup_eq_none_iff.1 hnone)
    · exact h

/-- An entry's call, if it makes one, keeps the incidents in order (R115). -/
theorem State.RulesOk.callFor {s : State} (h : s.RulesOk) (rule : LineRule) (x : EdgeInfo) :
    (callFor rule x s).1.RulesOk := by
  unfold Machine.callFor
  split
  · exact h
  · split
    · exact h
    · exact h.incidentCall _

/-- The building of a record keeps the banks and the incidents in order (R115, R116). -/
theorem State.RulesOk.buildRecord {s : State} (h : s.RulesOk) (e : EntryInHand) (r : RecordToBuild)
    (rest : List RecordToBuild) : (buildRecord e r rest s).1.RulesOk := by
  cases r with
  | lineChange =>
    refine (h.callFor e.rule e.edge).of_eq ?_ ?_ <;> simp only [Machine.buildRecord, buildLineChange, offer_frame]
  | incidentClose c => exact h.of_eq (by simp) (by simp [Machine.buildRecord])
  | chatterOn n => exact h.of_eq (by simp) (by simp [Machine.buildRecord])

/-- Going on with an entry keeps the banks and the incidents in order (R113). -/
theorem State.RulesOk.carryOn {s : State} (h : s.RulesOk) (e : EntryInHand) : (carryOn e s).RulesOk := by
  unfold Machine.carryOn
  split
  · exact h
  · next r rest _ => exact (h.buildRecord e r rest).of_eq (by simp) (by simp)

/-- After a reset the banks are in range and no incident is open (R64, R120). -/
theorem State.RulesOk.resetPart (cause : ResetCause) (straps : Straps) (s : State) :
    (resetPart cause straps s).RulesOk :=
  reset_rulesOk.of_eq rfl rfl

/-- All that a command does keeps the banks and the incidents in order (R46, R53, R105). -/
theorem State.RulesOk.step {s t : State} (h : s.RulesOk) (ht : RulesStep s t) : t.RulesOk := by
  cases ht with
  | kept hk =>
    obtain ⟨hr, hi, -⟩ := State.correlation_eq_iff.1 hk
    exact h.of_eq hr hi
  | reset cause straps u hu => exact hu ▸ .resetPart cause straps u
  | edited b hb hk =>
    simp only [State.correlation, Prod.mk.injEq] at hk
    obtain ⟨hr, hi, -⟩ := hk
    have hedited : State.RulesOk { s with rules := { s.rules with staged := b } } :=
      ⟨h.active, hb h.active h.staged, h.members, h.groups⟩
    exact hedited.of_eq hr hi
  | closed i hk =>
    simp only [State.correlation, Prod.mk.injEq] at hk
    obtain ⟨hr, hi, -⟩ := hk
    exact h.freeSlot hr i (congrArg IncidentUnit.slots hi)
  | handled hand _ hk =>
    simp only [State.correlation, Prod.mk.injEq] at hk
    exact h.of_eq hk.1 hk.2.1
  | carried u e _ hu hc =>
    simp only [State.correlation, Prod.mk.injEq] at hu
    exact hc ▸ (h.of_eq hu.1 hu.2.1).carryOn e
  | switched g x hx hk =>
    simp only [State.correlation, Prod.mk.injEq] at hk
    obtain ⟨hr, hi, -⟩ := hk
    exact .of_free (hr ▸ h.staged) (hr ▸ h.staged) (hi ▸ hx)

/-! ### The entry in hand (R49, R113) -/

/-- An incident closes in the answer of a call that was made, and only then (R48, R115). -/
theorem calls_of_closed {rule : LineRule} {x : EdgeInfo} {s : State} {c : CloseBody}
    (h : (callFor rule x s).2.closed = some c) : rule.calls = true := by
  unfold callFor at h
  unfold LineRule.calls
  split at h
  · exact nomatch h
  · next hg =>
    split at h
    · exact nomatch h
    · next hrole => simp [hg, hrole]

/-- The records left after the first one of an entry in order are in order (R49, R113). -/
theorem EntryInHand.Ordered.buildRecord {e : EntryInHand} (h : e.Ordered) {r : RecordToBuild} {rest : List RecordToBuild}
    (hl : e.left = r :: rest) (s : State) (hne : (buildRecord e r rest s).2.left ≠ []) :
    (buildRecord e r rest s).2.Ok := by
  obtain ⟨hchange, hclose⟩ := h r rest hl
  cases r with
  | lineChange =>
    refine ⟨hne, fun hm => ?_, fun c hm => ?_⟩
    · simp [Machine.buildRecord, buildLineChange, hchange] at hm
    · simp only [Machine.buildRecord, buildLineChange, List.mem_append, Option.mem_toList,
        Option.map_eq_some_iff] at hm
      rcases hm with ⟨_, hclosed, -⟩ | hm
      · exact calls_of_closed hclosed
      · exact absurd rfl (hclose c hm).1
  | incidentClose _ => exact ⟨hne, fun hm => absurd hm hchange, fun c hm => (hclose c hm).2⟩
  | chatterOn _ => exact ⟨hne, fun hm => absurd hm hchange, fun c hm => (hclose c hm).2⟩

/-- Building a record leaves the entry and the line entry it is classified under (R113). -/
theorem buildRecord_entry (e : EntryInHand) (r : RecordToBuild) (rest : List RecordToBuild) (s : State) :
    (buildRecord e r rest s).2.edge = e.edge ∧ (buildRecord e r rest s).2.rule = e.rule := by
  cases r <;> exact ⟨rfl, rfl⟩

/-- Building a record leaves the classifier's hand (R115, R116). -/
theorem buildRecord_inHand (e : EntryInHand) (r : RecordToBuild) (rest : List RecordToBuild) (s : State) :
    (buildRecord e r rest s).1.classifier.inHand = s.classifier.inHand := by
  cases r <;> simp [buildRecord, buildChatterOn_classifier]

/-- After a record of an entry the hand, empty before, holds what is left of it (R113). -/
theorem keepInHand_inHand {r : State × EntryInHand} (h : r.1.classifier.inHand = none) :
    (keepInHand r).classifier.inHand = handOf r.2 := by
  obtain ⟨s, e⟩ := r
  rw [keepInHand_eq e rfl h]

/-- What the hand holds after an entry has been gone on with is in order (R49, R113). -/
theorem State.InHandOk.carryOn {s : State} {e : EntryInHand} (hh : s.classifier.inHand = none) (ho : e.Ordered)
    (hr : s.RuleOf e) : (carryOn e s).InHandOk := by
  unfold Machine.carryOn
  split
  · exact fun h hx => nomatch hh.symm.trans hx
  · next r rest hl =>
    obtain ⟨hedge, hrule⟩ := buildRecord_entry e r rest s
    have hrules : (keepInHand (buildRecord e r rest s)).rules = s.rules := by simp
    intro h hx
    rw [keepInHand_inHand ((buildRecord_inHand e r rest s).trans hh)] at hx
    obtain ⟨hne, rfl⟩ := handOf_eq_some hx
    refine ⟨ho.buildRecord hl s hne, ?_⟩
    simp only [hrules, hrule, hedge]
    exact hr

/-- All that a command does keeps the entry in hand in order (R49, R113). -/
theorem State.InHandOk.step {s t : State} (h : s.InHandOk) (ht : RulesStep s t) : t.InHandOk := by
  cases ht with
  | kept hk =>
    obtain ⟨hr, -, hh⟩ := State.correlation_eq_iff.1 hk
    rw [State.InHandOk, hr, hh]
    exact h
  | reset cause straps u hu => exact hu ▸ fun _ hx => nomatch hx
  | edited b hb hk =>
    simp only [State.correlation, Prod.mk.injEq] at hk
    obtain ⟨hr, -, hh⟩ := hk
    rw [State.InHandOk, hr, hh]
    exact h
  | closed i hk =>
    simp only [State.correlation, Prod.mk.injEq] at hk
    obtain ⟨hr, -, hh⟩ := hk
    rw [State.InHandOk, hr, hh]
    exact h
  | handled hand hhand hk =>
    simp only [State.correlation, Prod.mk.injEq] at hk
    obtain ⟨hr, -, hh⟩ := hk
    rw [State.InHandOk, hr, hh]
    exact hhand
  | carried u e he hu hc =>
    simp only [State.correlation, Prod.mk.injEq] at hu
    obtain ⟨hr, -, hh⟩ := hu
    obtain ⟨hordered, hrule⟩ := he h
    exact hc ▸ .carryOn hh hordered (by rw [State.RuleOf, hr]; exact hrule)
  | switched g x hx hk =>
    simp only [State.correlation, Prod.mk.injEq] at hk
    exact fun h hx => nomatch hk.2.2.symm.trans hx

/-- What every command keeps, and the passing of a microsecond, every step keeps. -/
theorem step_keeps {P : State → Prop} (hpending : ∀ s l, P s → P { s with pending := l })
    (hidle : ∀ s, P s → P (idle s)) (hexec : ∀ c s t, P s → exec c s = .next t → P t) :
    ∀ s t, P s → step s = .next t → P t := by
  intro s t h ht
  unfold step at ht
  split at ht
  · obtain rfl := Host.Outcome.next.inj ht
    exact hidle s h
  · next c rest _ => exact hexec c _ t (hpending s rest h) ht

/-- Settles O55: both invariants are kept by all that a command can do to the banks, the incidents and the hand. -/
theorem stepKeepsRules : Obligations.StepKeepsRules := by
  refine ⟨step_keeps (P := State.RulesOk) ?_ ?_ ?_, step_keeps (P := State.InHandOk) ?_ ?_ ?_⟩
  · exact fun s _ h => h.of_eq rfl rfl
  · exact fun s h => h.of_eq rfl rfl
  · exact fun _ _ _ h ht => h.step (.of_exec ht)
  · exact fun _ _ h => h
  · exact fun _ h => h
  · exact fun _ _ _ h ht => h.step (.of_exec ht)

end Sys2Proof.Machine
end

section
/-!
PROOFS. The incident unit as the statements of chapter 3 describe it: its list (R61), calls that open or join an incident
(R48 to R54), and the closing of one incident (R49, R55 to R57, R60).
-/
namespace Sys2Proof.Machine

/-! ### The list of open incidents (R61) -/

/-- The OPEN slots, in ascending order. -/
def IncidentUnit.openSlots (u : IncidentUnit) : List SlotNo :=
  (List.finRange 8).filter fun i => u.slots[i].isSome

/-- The slots of the list are the OPEN ones at or above the start (R61). -/
theorem map_fst_openFrom (u : IncidentUnit) (start : Nat) :
    (u.openFrom start).map (·.1) = u.openSlots.filter fun i => decide (start ≤ i.val) := by
  rw [IncidentUnit.openFrom, IncidentUnit.openSlots, List.map_filterMap, List.filter_filter]
  rw [← List.filterMap_eq_filter]
  refine List.filterMap_congr fun i _ => ?_
  by_cases h : start ≤ i.val <;> cases hs : u.slots[i] <;> simp_all [Option.guard]

/-- Each pair of the list is an OPEN slot and what it holds (R61). -/
theorem slots_of_mem_openFrom {u : IncidentUnit} {start : Nat} {x : SlotNo × Incident} (h : x ∈ u.openFrom start) :
    u.slots[x.1] = some x.2 := by
  obtain ⟨i, -, hi⟩ := List.mem_filterMap.1 h
  split at hi
  · obtain ⟨y, hy, rfl⟩ := Option.map_eq_some_iff.1 hi
    exact hy
  · exact nomatch hi

/-- Settles O35: the slots given are the first of those found, each with what it holds. -/
theorem incidentsAreListed : Obligations.IncidentsAreListed := by
  intro p s q b hq hb remaining isOpen found
  have hexec : exec (.listIncidents p) s = .next (request p .listIncidents listIncidentsBlock s) := rfl
  rw [hexec, request_ready _ hq, hb]
  refine ⟨fun h8 => ?_, fun h8 => ?_⟩
  · have hnone : finOf 8 (fieldByte [b] 0) = none := dif_neg (Nat.not_lt.2 h8)
    simp only [listIncidentsBlock, hnone]
    rfl
  · have hsome : finOf 8 (fieldByte [b] 0) = some ⟨b.toNat, h8⟩ := dif_pos h8
    have hfound : (s.incidents.openFrom b.toNat).map (·.1) = found := map_fst_openFrom s.incidents b.toNat
    have hopen : (s.incidents.openFrom 0).length = isOpen.length := by
      rw [← List.length_map (f := (·.1)), map_fst_openFrom]
      simp [isOpen, IncidentUnit.openSlots]
    refine ⟨((s.incidents.openFrom b.toNat).take 4).map fun x => incidentReport s.clock.uptime x.1 x.2, ?_, ?_, ?_⟩
    · simp only [listIncidentsBlock, hsome, State.putInHand_incidents, State.putInHand_clock, hopen, ← hfound,
        List.getElem?_map]
    · rw [← hfound, List.map_map, ← List.map_take]
      rfl
    · intro r hr
      obtain ⟨x, hx, rfl⟩ := List.mem_map.1 hr
      exact ⟨slots_of_mem_openFrom (List.mem_of_mem_take hx), rfl, rfl⟩

/-! ### Finding one slot (R48, R50, R60) -/

/-- A search whose only hit is `a`. -/
theorem findSome?_eq_of_unique {α β : Type} {f : α → Option β} {l : List α} {a : α} {b : β} (ha : a ∈ l)
    (hb : f a = some b) (hu : ∀ x ∈ l, f x ≠ none → x = a) : l.findSome? f = some b := by
  induction l with
  | nil => exact nomatch ha
  | cons x l ih =>
    rw [List.findSome?_cons]
    cases hx : f x with
    | some y =>
      obtain rfl := hu x List.mem_cons_self (by simp [hx])
      exact hx.symm.trans hb
    | none =>
      have hne : a ≠ x := by
        rintro rfl
        exact nomatch hx.symm.trans hb
      exact ih ((List.mem_cons.1 ha).resolve_left hne) fun y hy => hu y (List.mem_cons_of_mem x hy)

/-- The slot of the one open incident of a group (R48). -/
theorem slotOfGroup_eq_some {u : IncidentUnit} {i : SlotNo} {x : Incident} (hx : u.slots[i] = some x)
    (hu : ∀ (j : SlotNo) (y : Incident), u.slots[j] = some y → y.group = x.group → j = i) :
    u.slotOfGroup x.group = some (i, x) := by
  refine findSome?_eq_of_unique (List.mem_finRange i) (by simp [hx]) fun j _ hj => ?_
  split at hj
  · next y hy =>
    split at hj
    · next hg => exact hu j y hy hg
    · exact absurd rfl hj
  · exact absurd rfl hj

/-- The slot of the one open incident with an id (R60). -/
theorem slotOfId_eq_some {u : IncidentUnit} {i : SlotNo} {x : Incident} (hx : u.slots[i] = some x)
    (hu : ∀ (j : SlotNo) (y : Incident), u.slots[j] = some y → y.id = x.id → j = i) :
    u.slotOfId x.id = some (i, x) := by
  refine findSome?_eq_of_unique (List.mem_finRange i) (by simp [hx]) fun j _ hj => ?_
  split at hj
  · next y hy =>
    split at hj
    · next hid => exact hu j y hy hid
    · exact absurd rfl hj
  · exact absurd rfl hj

/-- No slot has an id that no open incident has (R60). -/
theorem slotOfId_eq_none {u : IncidentUnit} {id : IncidentId}
    (h : ∀ (j : SlotNo) (y : Incident), u.slots[j] = some y → y.id ≠ id) : u.slotOfId id = none := by
  rw [IncidentUnit.slotOfId, List.findSome?_eq_none_iff]
  intro j _
  split
  · next y hy => rw [if_neg (h j y hy)]
  · rfl

/-- With every slot OPEN there is no FREE one (R51). -/
theorem freeSlot_eq_none {u : IncidentUnit} (h : ∀ j : SlotNo, u.slots[j] ≠ none) : u.freeSlot = none := by
  rw [IncidentUnit.freeSlot, List.find?_eq_none]
  intro j _
  simpa using h j

/-- The lowest FREE slot (R50). -/
theorem freeSlot_eq_some {u : IncidentUnit} {i : SlotNo} (hi : u.slots[i] = none)
    (hlow : ∀ j : SlotNo, j < i → u.slots[j] ≠ none) : u.freeSlot = some i := by
  rw [IncidentUnit.freeSlot, List.find?_eq_some_iff_getElem]
  refine ⟨by simp [hi], i.val, by simp, by simp, fun j hj => ?_⟩
  simpa [Option.isSome_iff_ne_none] using hlow ⟨j, by omega⟩ hj

/-! ### The id of a new incident (R50) -/

/-- The successor of a counter of 16 bits that skips 0 (Table 0-4). -/
theorem nextSkippingZero_eq (id : BitVec 16) : nextSkippingZero id = if id = 65535 then 1 else id + 1 := by
  unfold nextSkippingZero
  by_cases h : id = 65535
  · subst h
    rfl
  · rw [if_neg h, if_neg]
    intro h0
    apply h
    bv_omega

/-- The ids that follow one another, counted from `id` (R50). -/
def followingId (id : IncidentId) (n : Nat) : IncidentId := nextSkippingZero^[n] id

/-- The number of an id that follows: beyond 65,535 the count goes on from 1 (R50). -/
theorem toNat_followingId (id : IncidentId) {n : Nat} (hn : n < 65535) : (followingId id n).toNat =
    if id.toNat + n ≤ 65535 then id.toNat + n else id.toNat + n - 65535 := by
  induction n with
  | zero => simp [followingId]; omega
  | succ n ih =>
    have ih := ih (by omega)
    rw [followingId, Function.iterate_succ_apply', ← followingId, nextSkippingZero_eq]
    split
    · next h => rw [h] at ih; split at ih <;> split <;> simp at * <;> omega
    · next h =>
      have h : (followingId id n).toNat ≠ 65535 := fun hn => h (BitVec.eq_of_toNat_eq hn)
      have hlt := (followingId id n).isLt
      rw [BitVec.toNat_add, Nat.mod_eq_of_lt (by simp; omega)]
      split at ih <;> split <;> simp at * <;> omega

/-- Ids that follow one another differ, short of a whole round (R50). -/
theorem followingId_injective (id : IncidentId) {m n : Nat} (hm : m < 65535) (hn : n < 65535)
    (h : followingId id m = followingId id n) : m = n := by
  have h := congrArg BitVec.toNat h
  rw [toNat_followingId id hm, toNat_followingId id hn] at h
  split at h <;> split at h <;> omega

/-- An id is held when an open incident has it, and only then (R50). -/
theorem holdsId_iff {u : IncidentUnit} {id : IncidentId} :
    u.holdsId id = true ↔ ∃ (j : SlotNo) (y : Incident), u.slots[j] = some y ∧ y.id = id := by
  simp only [IncidentUnit.holdsId, List.any_eq_true, List.mem_finRange, true_and]
  refine exists_congr fun j => ?_
  cases u.slots[j] <;> simp

/-- The search for an id passes over held ones alone, and ends at one not held or after all its tries (R50). -/
theorem freeId_spec (u : IncidentUnit) (k : Nat) (id : IncidentId) : ∃ n ≤ k, u.freeId k id = followingId id n ∧
    (∀ m < n, u.holdsId (followingId id m) = true) ∧ (n < k → u.holdsId (followingId id n) = false) := by
  induction k generalizing id with
  | zero => exact ⟨0, le_rfl, rfl, nofun, nofun⟩
  | succ k ih =>
    rw [IncidentUnit.freeId]
    split
    · next hheld =>
      obtain ⟨n, hn, heq, hbelow, hfree⟩ := ih (nextSkippingZero id)
      refine ⟨n + 1, Nat.succ_le_succ hn, heq, fun m hm => ?_, fun h => hfree (Nat.lt_of_succ_lt_succ h)⟩
      cases m with
      | zero => exact hheld
      | succ m => exact hbelow m (Nat.lt_of_succ_lt_succ hm)
    · next hfree => exact ⟨0, Nat.zero_le _, rfl, nofun, fun _ => Bool.eq_false_iff.2 hfree⟩

/-- With a FREE slot, eight ids in a row are not all held: each would take a slot of its own (R50). -/
theorem exists_not_held {u : IncidentUnit} {i : SlotNo} (hi : u.slots[i] = none) (id : IncidentId) :
    ∃ m < 8, u.holdsId (followingId id m) = false := by
  by_contra hall
  have hall (m : Fin 8) : ∃ (j : SlotNo) (y : Incident), u.slots[j] = some y ∧ y.id = followingId id m := by
    refine holdsId_iff.1 ?_
    by_contra hm
    exact hall ⟨m, m.isLt, Bool.eq_false_iff.2 hm⟩
  choose slot incident hslot hid using hall
  have hinj : Function.Injective slot := by
    intro m n h
    have hsame : incident m = incident n := Option.some.inj ((hslot m).symm.trans (by rw [h]; exact hslot n))
    refine Fin.ext (followingId_injective id (by omega) (by omega) ?_)
    rw [← hid m, ← hid n, hsame]
  obtain ⟨m, hm⟩ := (Finite.injective_iff_surjective.1 hinj) i
  exact nomatch (hm ▸ hslot m).symm.trans hi

/-- With a FREE slot the id of a new incident is the first from the next id on that no open incident has (R50). -/
theorem freeId_eq {u : IncidentUnit} {i : SlotNo} (hi : u.slots[i] = none) (id : IncidentId) :
    ∃ n, u.freeId 8 id = followingId id n ∧ u.holdsId (followingId id n) = false ∧
      ∀ m < n, u.holdsId (followingId id m) = true := by
  obtain ⟨n, hn, heq, hbelow, hfree⟩ := freeId_spec u 8 id
  obtain ⟨m, hm, hnot⟩ := exists_not_held hi id
  have hlt : n < 8 := by
    by_contra hge
    exact nomatch hnot.symm.trans (hbelow m (by omega))
  exact ⟨n, heq, hfree hlt, hbelow⟩

/-! ### Calls (R48, R50 to R54) -/

/-- The end of a call that the member limit may close (R53). -/
theorem finishCall_limit (i : SlotNo) (x : Incident) (opened : Bool) (rule : GroupRule) (s : State) :
    finishCall i x opened (limitReason rule x) s = if x.members = rule.memberLimit then
      (s.setSlot i none, ⟨some x.id, opened, some (closeBody .memberLimit s.clock.uptime x)⟩)
    else (s.setSlot i (some x), ⟨some x.id, opened, none⟩) := by
  unfold limitReason
  split <;> rfl

/-- The incident that a call opens, with its member set and its timers written out (R50). -/
theorem openedIncident_eq (id : IncidentId) (rule : GroupRule) (c : Call) : openedIncident id rule c =
    ⟨id, c.group, c.line, c.stamp, c.uptime, c.stamp, c.uptime, c.uptime, 1, 1#32 <<< c.line.val, c.cls,
      c.uptime + BitVec.ofNat 48 (rule.settleMs * 1000),
      if rule.maxDurationMs = 0 then none else some (c.uptime + BitVec.ofNat 48 (rule.maxDurationMs * 1000))⟩ := by
  simp [openedIncident, putLine, afterMs, afterUs]

/-- The incident after a join, each field by itself (R52). -/
theorem Incident.join_eq (rule : GroupRule) (c : Call) (x : Incident) : x.join rule c = { x with
    members := x.members + 1
    memberSet := x.memberSet ||| 1#32 <<< c.line.val
    highest := if x.highest < c.cls then c.cls else x.highest
    firstStamp := if reached c.uptime x.firstUptime then x.firstStamp else c.stamp
    firstUptime := if reached c.uptime x.firstUptime then x.firstUptime else c.uptime
    lastStamp := if reached c.uptime x.lastUptime then c.stamp else x.lastStamp
    lastUptime := if reached c.uptime x.lastUptime then c.uptime else x.lastUptime
    quietDeadline := (if reached c.uptime x.lastUptime then c.uptime else x.lastUptime) +
      BitVec.ofNat 48 (rule.settleMs * 1000) } := by
  have hmax : max x.highest c.cls = if x.highest < c.cls then c.cls else x.highest := by
    rcases lt_or_ge x.highest c.cls with h | h
    · rw [if_pos h, max_eq_right h.le]
    · rw [if_neg h.not_gt, max_eq_left h]
  by_cases hfirst : reached c.uptime x.firstUptime = true <;> by_cases hlast : reached c.uptime x.lastUptime = true <;>
    simp [Incident.join, hfirst, hlast, hmax, putLine, afterMs, afterUs]

/-- An OPEN_OR_JOIN call with a FREE slot opens an incident in the lowest (R50, R53). -/
theorem openCall_of_free {c : Call} {s : State} {i : SlotNo} (hi : s.incidents.freeSlot = some i) :
    openCall c s = finishCall i
      (openedIncident (s.incidents.freeId 8 s.incidents.nextId) s.rules.active.groups[c.group] c) true
      (limitReason s.rules.active.groups[c.group]
        (openedIncident (s.incidents.freeId 8 s.incidents.nextId) s.rules.active.groups[c.group] c))
      { s with incidents := { s.incidents with
        nextId := nextSkippingZero (s.incidents.freeId 8 s.incidents.nextId) } } := by
  simp only [openCall, hi]

/-- Settles O36: the call's case of Table 3-6, with the opened or joined incident written out. -/
theorem callOpensOrJoinsIncident : Obligations.CallOpensOrJoinsIncident := by
  refine ⟨?_, ?_⟩
  · intro c s hnone rule
    have hcall : incidentCall c s = if c.role = .openOrJoin then openCall c s else (s, .noIncident) := by
      simp only [incidentCall, slotOfGroup_eq_none_iff.2 hnone]
    refine ⟨fun hrole => ?_, fun hrole hfull => ?_, fun hrole i hi hlow => ?_⟩
    · rw [hcall, if_neg hrole]
      rfl
    · rw [hcall, if_pos hrole, openCall, freeSlot_eq_none hfull]
      rfl
    · obtain ⟨n, hid, hfree, hheld⟩ := freeId_eq hi s.incidents.nextId
      have hfollowing (m : Nat) : followingId s.incidents.nextId m =
          Nat.iterate (fun x : IncidentId => if x = 65535 then 1 else x + 1) m s.incidents.nextId := by
        rw [followingId, funext nextSkippingZero_eq]
      rw [hcall, if_pos hrole, openCall_of_free (freeSlot_eq_some hi hlow), finishCall_limit, hid]
      refine ⟨followingId s.incidents.nextId n, n, hfollowing n, fun j z hz hzid => ?_, fun m hm => ?_, ?_⟩
      · exact nomatch hfree.symm.trans (holdsId_iff.2 ⟨j, z, hz, hzid⟩)
      · obtain ⟨j, z, hz, hzid⟩ := holdsId_iff.1 (hheld m hm)
        exact ⟨j, z, hz, hzid.trans (hfollowing m)⟩
      · intro x after
        rw [openedIncident_eq, nextSkippingZero_eq]
        exact ⟨fun hlimit => if_neg (Ne.symm hlimit), fun hlimit => if_pos hlimit.symm⟩
  · intro c s i x hok hx hg rule later lastUptime y after
    have hslot : s.incidents.slotOfGroup c.group = some (i, x) :=
      hg ▸ slotOfGroup_eq_some hx fun j z hz hgz => hok.groups j i z x hz hx hgz
    have hcall : incidentCall c s =
        finishCall i y false (if c.role = .close then some .line else limitReason rule y) s := by
      simp only [incidentCall, hslot, joinCall, Incident.join_eq]
      rfl
    rw [hcall]
    refine ⟨fun hrole => ?_, fun hrole hlimit => ?_, fun hrole hlimit => ?_⟩
    · rw [if_pos hrole]
      rfl
    · rw [if_neg hrole, finishCall_limit]
      exact if_pos hlimit
    · rw [if_neg hrole, finishCall_limit]
      exact if_neg hlimit

/-! ### Closing one incident (R49, R55 to R57, R60) -/

/-- QUIET_TIMER_EXPIRY for an OPEN slot: with its deadline reached, outside a call's action, it closes (R49, R56). -/
theorem exec_quietTimerExpiry {s : State} {i : SlotNo} {x : Incident} (hx : s.incidents.slots[i] = some x) :
    exec (.quietTimerExpiry i) s = .next (if reached s.clock.uptime x.quietDeadline && !s.inAction then
      closeSlot .settled i x s else s) := by
  simp only [exec, execQuietTimerExpiry, hx]

/-- DURATION_TIMER_EXPIRY for an OPEN slot (R49, R57). -/
theorem exec_durationTimerExpiry {s : State} {i : SlotNo} {x : Incident} (hx : s.incidents.slots[i] = some x) :
    exec (.durationTimerExpiry i) s = .next (if expired s.clock.uptime x.durationDeadline && !s.inAction then
      closeSlot .duration i x s else s) := by
  simp only [exec, execDurationTimerExpiry, hx]

/-- During a call's action no timer closes an incident (R49). -/
theorem exec_timers_inAction {s : State} (h : s.inAction = true) (i : SlotNo) :
    exec (.quietTimerExpiry i) s = .next s ∧ exec (.durationTimerExpiry i) s = .next s := by
  cases hx : s.incidents.slots[i] with
  | none => simp only [exec, execQuietTimerExpiry, execDurationTimerExpiry, hx, and_self]
  | some x => simp [exec_quietTimerExpiry hx, exec_durationTimerExpiry hx, h]

/-- During a call's action CLOSE_INCIDENT waits in its queue (R49, R60). -/
theorem exec_closeIncident_inAction {s : State} {p : Port} {q : Request} (h : s.inAction = true)
    (hq : Ready s p .closeIncident q) : exec (.closeIncident p) s = .next s := by
  simp only [exec, execCloseIncident, h, passesToBlock_of_ready hq, Bool.and_self, if_true]

/-- The id of a payload of two bytes (R170). -/
theorem fieldInt_two (hi lo : Byte) : fieldInt [hi, lo] 0 2 = (hi ++ lo).toNat := by
  have hof : fieldInt [hi, lo] 0 2 = hi.toNat * 256 + lo.toNat := by simp [fieldInt, ofBytes]
  rw [hof, BitVec.toNat_append, ← Nat.shiftLeft_add_eq_or_of_lt lo.isLt, Nat.shiftLeft_eq]

/-- CLOSE_INCIDENT from the claimant, outside a call's action: the id 0, an id that is not open, or a close (R60). -/
theorem exec_closeIncident {s : State} {p : Port} {q : Request} {id : IncidentId} (hq : Ready s p .closeIncident q)
    (ha : s.inAction = false) (hc : s.holdsClaim p = true) (hid : fieldInt q.payload 0 2 = id.toNat) :
    exec (.closeIncident p) s = .next (
      if id = 0 then (s.putInHand p).replied p q .badValue .none
      else match s.incidents.slotOfId id with
        | none => (s.putInHand p).replied p q .notOpen .none
        | some (i, x) => (closeSlot .host i x (s.putInHand p)).replied p q .ok .none) := by
  have hexec : exec (.closeIncident p) s = .next (request p .closeIncident (closeIncidentBlock p) s) := by
    simp only [exec, execCloseIncident, ha, Bool.false_and, if_neg Bool.false_ne_true]
  have hzero : id.toNat = 0 ↔ id = 0 := (BitVec.toNat_eq (y := 0)).symm
  rw [hexec, request_ready _ hq]
  simp only [closeIncidentBlock, withClaim, holdsClaim_putInHand, hc, if_true, hid, hzero, BitVec.ofNat_toNat,
    BitVec.setWidth_eq, State.putInHand_incidents]
  split
  · rfl
  · cases s.incidents.slotOfId id <;> rfl

/-- Settles O37: the three commands, by the action and by what the slot holds. -/
theorem incidentClosesWithItsRecord : Obligations.IncidentClosesWithItsRecord := by
  refine ⟨fun s h hh hcalled => ?_, ?_⟩
  · have ha : s.inAction = true := by simp only [State.inAction, hh, hcalled]
    exact ⟨exec_timers_inAction ha, fun p q hq => exec_closeIncident_inAction ha hq⟩
  · intro i x closed
    refine ⟨fun s ha hx => ?_, fun p s q hi lo hq ha hc hpay => ?_⟩
    · have hquiet := exec_quietTimerExpiry hx
      have hduration := exec_durationTimerExpiry hx
      rw [ha, Bool.not_false, Bool.and_true] at hquiet hduration
      refine ⟨fun h => ?_, fun h => ?_, fun d hd => ⟨fun h => ?_, fun h => ?_⟩, fun hd => ?_⟩
      · rw [hquiet, if_pos h]
        rfl
      · rw [hquiet, h, if_neg Bool.false_ne_true]
      · rw [hduration, hd, expired, if_pos h]
        rfl
      · rw [hduration, hd, expired, h, if_neg Bool.false_ne_true]
      · rw [hduration, hd, expired, if_neg Bool.false_ne_true]
    · intro u id
      have hexec := exec_closeIncident (id := id) hq ha hc (hpay ▸ fieldInt_two hi lo)
      refine ⟨fun h0 => ?_, fun h0 hnone => ?_, fun h0 hx hid hu => ?_⟩
      · rw [hexec, if_pos h0]
      · rw [hexec, if_neg h0, slotOfId_eq_none hnone]
      · have hslot : s.incidents.slotOfId id = some (i, x) := hid ▸ slotOfId_eq_some hx (hid ▸ hu)
        rw [hexec, if_neg h0, hslot]
        rfl

end Sys2Proof.Machine
end

section
/-!
PROOFS. The switch instant (R62, R65, R82 to R85, R112, R119, R129 to R131, R134): what each of its parts makes of the
incidents, the lines, the classifier's flags, the FIFO and the requester's port. Its proofs are checked one after another
(Elab.async off), within the memory of one.
-/
namespace Sys2Proof.Machine
set_option Elab.async false

/-! ### Appends leave the session numbers (R134) -/

/-- The number of the session open on a port. -/
def State.sessionNumber (s : State) (p : Port) : Option SessionNumber :=
  (s.ports.get p).session.map (·.number)

/-- A port set anew with the number of its session leaves every session number. -/
theorem sessionNumber_setPort {s : State} {p : Port} {x : PortState}
    (h : x.session.map (·.number) = s.sessionNumber p) (q : Port) :
    (s.setPort p x).sessionNumber q = s.sessionNumber q := by
  rw [State.sessionNumber, State.setPort_ports, PerPort.get_set]
  split
  · next hq => rw [hq, h]
  · rfl

theorem sessionNumber_withdraw (s : State) (p : Port) (f : Frame → Bool) (q : Port) :
    (s.withdraw p f).sessionNumber q = s.sessionNumber q :=
  sessionNumber_setPort (s := s) (p := p)
    (x := { s.ports.get p with waiting := (s.ports.get p).waiting.filter fun x => !f x }) rfl q

theorem sessionNumber_offerNotice (p : Port) (s : State) (q : Port) :
    (offerNotice p s).sessionNumber q = s.sessionNumber q := by
  obtain ⟨x, hx, -, -, -, -, hn⟩ := offerNotice_eq p s
  rw [hx]
  exact sessionNumber_setPort hn q

theorem sessionNumber_offerAlert (p : Port) (a : AlertInfo) (s : State) (q : Port) :
    (offerAlert p a s).sessionNumber q = s.sessionNumber q := by
  obtain ⟨x, hx, -, -, -, -, hn⟩ := offerAlert_eq p a s
  rw [hx]
  exact sessionNumber_setPort hn q

theorem sessionNumber_raise (k : ExceptionKind) (x : ExceptionSubject) (s : State) (q : Port) :
    (raise k x s).sessionNumber q = s.sessionNumber q := by
  unfold raise
  dsimp only
  split
  · rw [sessionNumber_offerNotice, sessionNumber_offerNotice]
    rfl
  · rfl

theorem sessionNumber_handAlert (a : Option AlertInfo) (s : State) (q : Port) :
    (handAlert a s).sessionNumber q = s.sessionNumber q := by
  cases a with
  | none => rfl
  | some a =>
    rw [handAlert, takeAlert, sessionNumber_offerAlert, sessionNumber_offerAlert]
    rfl

/-- A change of no port leaves every session number. -/
theorem sessionNumber_of_ports {s t : State} (h : t.ports = s.ports) (q : Port) :
    t.sessionNumber q = s.sessionNumber q := by
  rw [State.sessionNumber, h]
  rfl

theorem sessionNumber_withdrawRecords (p : Port) (s : State) (q : Port) :
    (withdrawRecords p s).sessionNumber q = s.sessionNumber q := by
  unfold withdrawRecords
  split <;> exact sessionNumber_withdraw s p _ q

theorem sessionNumber_loseRecord (n : Seq) (p : Port) (s : State) (q : Port) :
    (loseRecord n p s).sessionNumber q = s.sessionNumber q := by
  unfold loseRecord
  split
  · rfl
  · split
    · rfl
    · dsimp only
      split
      · exact sessionNumber_withdrawRecords p s q
      · rw [sessionNumber_raise]
        exact sessionNumber_withdrawRecords p s q

theorem sessionNumber_overwriteOldest (s : State) (q : Port) :
    (overwriteOldest s).sessionNumber q = s.sessionNumber q := by
  unfold overwriteOldest
  split
  · rfl
  · rw [sessionNumber_loseRecord, sessionNumber_loseRecord]
    rfl

theorem sessionNumber_acceptOffer (o : Offer) (s : State) (q : Port) :
    (acceptOffer o s).sessionNumber q = s.sessionNumber q := by
  rw [acceptOffer, sessionNumber_handAlert]
  exact sessionNumber_of_ports (by simp) q

/-- An append closes no session and opens none (R4 to R6, R15 to R19). -/
theorem sessionNumber_append (o : Offer) (s : State) (q : Port) :
    (append o s).1.sessionNumber q = s.sessionNumber q := by
  unfold append
  split
  · dsimp only
    rw [sessionNumber_acceptOffer]
    split
    · rfl
    · exact sessionNumber_overwriteOldest s q
  · split
    · exact sessionNumber_acceptOffer o s q
    · split
      · rw [raiseMarker, sessionNumber_handAlert, sessionNumber_raise]
        exact sessionNumber_of_ports (by simp) q
      · rw [countRefused, sessionNumber_handAlert]
        rfl

/-- The close of all closes no session (R62). -/
theorem sessionNumber_closeAllIncidents (s : State) (q : Port) :
    (closeAllIncidents s).1.sessionNumber q = s.sessionNumber q := by
  refine foldl_keeps (fun acc : State × Nat => acc.1.sessionNumber q) _ (fun acc i => ?_) _ _
  rw [closeForSwitch_eq]
  split
  · exact sessionNumber_append _ _ q
  · rfl

/-! ### The incidents (R62) -/

/-- One slot's part of the close of all, by what the slot held before the switch instant (R62). -/
def closeHeld (s t : State) (i : SlotNo) : State :=
  match s.incidents.slots[i] with
  | some x => offer ⟨.incidentClose (closeBody .ruleset s.clock.uptime x), none, ⟨false, false, false, false, false⟩⟩
      { t with incidents := { t.incidents with slots := t.incidents.slots.set i none } }
  | none => t

/-- The close of all over some slots, each of which still holds what it held before the switch instant (R62). -/
theorem foldl_closeForSwitch {s : State} (l : List SlotNo) (hl : l.Nodup) (acc : State × Nat)
    (hc : acc.1.clock = s.clock) (hs : ∀ i ∈ l, acc.1.incidents.slots[i] = s.incidents.slots[i]) :
    l.foldl closeForSwitch acc = (l.foldl (closeHeld s) acc.1,
      acc.2 + (l.filter fun i => s.incidents.slots[i].isSome).length) := by
  induction l generalizing acc with
  | nil => rfl
  | cons i l ih =>
    obtain ⟨hi, hl⟩ := List.nodup_cons.1 hl
    have hslot := hs i List.mem_cons_self
    have hrest : ∀ j ∈ l, (closeForSwitch acc i).1.incidents.slots[j] = s.incidents.slots[j] := by
      intro j hj
      have hne : j ≠ i := by
        rintro rfl
        exact hi hj
      rw [slots_closeForSwitch, if_neg hne, hs j (List.mem_cons_of_mem i hj)]
    rw [List.foldl_cons, List.foldl_cons, ih hl _ (by simp [hc]) hrest, closeForSwitch_eq, hslot]
    cases hx : s.incidents.slots[i] with
    | none =>
      rw [List.filter_cons_of_neg (by simp [hx])]
      simp [closeHeld, hx]
    | some x =>
      rw [List.filter_cons_of_pos (by simp [hx])]
      simp [closeHeld, hx, closeSlot, hc, State.setSlot, Nat.add_assoc, Nat.add_comm 1]

/-- Every open incident closes RULESET in slot order, and they are counted (R62). -/
theorem closeAllIncidents_eq (s : State) : closeAllIncidents s =
    ((List.finRange 8).foldl (closeHeld s) s, ((List.finRange 8).filter fun i => s.incidents.slots[i].isSome).length) := by
  rw [closeAllIncidents, foldl_closeForSwitch _ (List.nodup_finRange 8) _ rfl fun _ _ => rfl, Nat.zero_add]

/-! ### The lines (R82, R84, R85) -/

/-- A line whose mode has changed: off and forgotten (R84, R85). -/
def Line.forgotten (l : Line) : Line :=
  { l with phase := .off, chatterCount := 0, window := none, release := none, held := none }

/-- A line at a switch instant stays or is forgotten (R82). -/
theorem Line.switchModes_eq (l : Line) (old new : Mode) :
    l.switchModes old new = if old = new then l else l.forgotten := by
  cases old <;> cases new <;> rfl

/-- A fold that gives each place of a list a value made from its old one. -/
theorem getElem_foldl_set {α : Type} {n : Nat} (f : Fin n → α → α) (l : List (Fin n)) (hl : l.Nodup) (v : Vector α n)
    (j : Fin n) : (l.foldl (fun w i => w.set i (f i w[i])) v)[j] = if j ∈ l then f j v[j] else v[j] := by
  induction l generalizing v with
  | nil => rfl
  | cons i l ih =>
    obtain ⟨hi, hl⟩ := List.nodup_cons.1 hl
    rw [List.foldl_cons, ih hl]
    by_cases hj : j = i
    · subst hj
      simp [hi]
    · have hne : i.val ≠ j.val := fun h => hj (Fin.ext h.symm)
      simp [hj, hne]

/-- The lines after the front end's part of the switch instant (R82). -/
def switchedLines (old new : Bank) (lines : Vector Line 32) : Vector Line 32 :=
  (List.finRange 32).foldl (fun w (i : LineNo) => w.set i (w[i].switchModes old.lines[i].mode new.lines[i].mode)) lines

theorem getElem_switchedLines (old new : Bank) (lines : Vector Line 32) (i : LineNo) :
    (switchedLines old new lines)[i] =
      if old.lines[i].mode = new.lines[i].mode then lines[i] else lines[i].forgotten := by
  have hfold := getElem_foldl_set (fun (i : LineNo) (l : Line) => l.switchModes old.lines[i].mode new.lines[i].mode) _
    (List.nodup_finRange 32) lines i
  rw [if_pos (List.mem_finRange i), Line.switchModes_eq] at hfold
  exact hfold

/-- The front end's part takes each line to its new entry, and counts a new sample period from now (R65, R82, R83). -/
theorem frontEndSwitch_eq (old : Bank) (s : State) : frontEndSwitch old s = { s with
    lines := switchedLines old s.rules.active s.lines
    nextSample := if old.period = s.rules.active.period then s.nextSample
      else afterUs s.clock.uptime s.rules.active.period.micros } := by
  have hlines (l : List LineNo) (t : State) : l.foldl (frontEndLine old) t = { t with
      lines := l.foldl (fun w (i : LineNo) => w.set i (w[i].switchModes old.lines[i].mode t.rules.active.lines[i].mode))
        t.lines } := by
    induction l generalizing t with
    | nil => rfl
    | cons i l ih => exact ih _
  rw [frontEndSwitch, hlines, switchPeriod]
  split <;> rfl

/-! ### The classifier's flags (R119) -/

/-- A line set with one line put in or taken out. -/
theorem getLsbD_putLine (set : LineSet) (i j : LineNo) (m : Bool) :
    (putLine set i m).getLsbD j.val = if j = i then m else set.getLsbD j.val := by
  cases m with
  | true => exact getLsbD_putLine_true set i j
  | false =>
    have hbit : (putLine set i false).getLsbD j.val =
        (set.getLsbD j.val && !((putLine 0 i true).getLsbD j.val)) := by
      simp [putLine, j.isLt]
    rw [hbit, getLsbD_putLine_true]
    split <;> simp

/-- The classifier's flags of a line at a switch instant (R119). -/
theorem Classifier.switchModes_eq (c : Classifier) (i : LineNo) (old new : Mode) : c.switchModes i old new =
    if old = new then c
    else { c with awaiting := putLine c.awaiting i (new == .capture), lockouts := putLine c.lockouts i false } := by
  cases old <;> cases new <;> rfl

/-- The flags after the parts of some lines: those of a line whose mode has changed follow it (R119). -/
theorem foldl_switchModes (old new : LineNo → Mode) (l : List LineNo) (c : Classifier) :
    ∃ lockouts awaiting, l.foldl (fun c i => c.switchModes i (old i) (new i)) c =
        ⟨c.levels, lockouts, awaiting, c.inHand⟩ ∧
      ∀ j : LineNo,
        lockouts.getLsbD j.val = (if j ∈ l ∧ old j ≠ new j then false else c.lockouts.getLsbD j.val) ∧
        awaiting.getLsbD j.val = (if j ∈ l ∧ old j ≠ new j then new j == .capture else c.awaiting.getLsbD j.val) := by
  induction l generalizing c with
  | nil => exact ⟨c.lockouts, c.awaiting, rfl, by simp⟩
  | cons i l ih =>
    obtain ⟨lockouts, awaiting, heq, hbits⟩ := ih (c.switchModes i (old i) (new i))
    rw [Classifier.switchModes_eq] at heq hbits
    refine ⟨lockouts, awaiting, ?_, fun j => ?_⟩
    · rw [List.foldl_cons, Classifier.switchModes_eq, heq]
      split <;> rfl
    · obtain ⟨hlockouts, hawaiting⟩ := hbits j
      rw [hlockouts, hawaiting]
      by_cases hm : old i = new i
      · rw [if_pos hm]
        by_cases hj : j = i
        · subst hj
          simp [hm]
        · simp [hj]
      · rw [if_neg hm]
        simp only [getLsbD_putLine]
        by_cases hj : j = i
        · subst hj
          simp [hm]
        · simp [hj]

/-- The classifier's part of the switch instant (R119). -/
theorem classifierSwitch_eq (old : Bank) (s : State) : ∃ lockouts awaiting, classifierSwitch old s =
      { s with classifier := ⟨s.classifier.levels, lockouts, awaiting, s.classifier.inHand⟩ } ∧
    ∀ j : LineNo,
      lockouts.getLsbD j.val = (if old.lines[j].mode ≠ s.rules.active.lines[j].mode then false
        else s.classifier.lockouts.getLsbD j.val) ∧
      awaiting.getLsbD j.val = (if old.lines[j].mode ≠ s.rules.active.lines[j].mode then
        s.rules.active.lines[j].mode == .capture else s.classifier.awaiting.getLsbD j.val) := by
  obtain ⟨lockouts, awaiting, heq, hbits⟩ := foldl_switchModes (fun i => old.lines[i].mode)
    (fun i => s.rules.active.lines[i].mode) (List.finRange 32) s.classifier
  refine ⟨lockouts, awaiting, ?_, fun j => ?_⟩
  · rw [classifierSwitch, heq]
  · simpa using hbits j

/-! ### The admission of held entries (R72, R79) -/

/-- A line whose held entry, if it has one, is admitted (R72, R79). -/
def Line.admittedIfHeld (now : Uptime) (releaseMs : Nat) (l : Line) : Line :=
  if l.held = none then l else l.admitted now releaseMs

/-- The lines once the held entries of a list of lines are admitted, under a bank (R79). -/
def admittedLines (now : Uptime) (b : Bank) (l : List LineNo) (lines : Vector Line 32) : Vector Line 32 :=
  l.foldl (fun w (i : LineNo) => w.set i (w[i].admittedIfHeld now b.lines[i].chatterReleaseMs)) lines

theorem getElem_admittedLines (now : Uptime) (b : Bank) (lines : Vector Line 32) (i : LineNo) :
    (admittedLines now b (List.finRange 32) lines)[i] = lines[i].admittedIfHeld now b.lines[i].chatterReleaseMs := by
  have hfold := getElem_foldl_set (fun (i : LineNo) (l : Line) => l.admittedIfHeld now b.lines[i].chatterReleaseMs) _
    (List.nodup_finRange 32) lines i
  rw [if_pos (List.mem_finRange i)] at hfold
  exact hfold

/-- The held entries of some lines are admitted in their order where the FIFO has room for as many (R79). -/
theorem foldl_admitLine (l : List LineNo) (hl : l.Nodup) (s : State) (hroom : s.fifo.length + l.length ≤ 64) :
    l.foldl admitLine s = { s with
      fifo := s.fifo ++ l.filterMap fun i => s.lines[i].held.map .front
      lines := admittedLines s.clock.uptime s.rules.active l s.lines } := by
  induction l generalizing s with
  | nil => simp [admittedLines]
  | cons i l ih =>
    obtain ⟨hi, hl⟩ := List.nodup_cons.1 hl
    rw [List.length_cons] at hroom
    rw [List.foldl_cons, admittedLines, List.foldl_cons, ← admittedLines]
    cases hh : s.lines[i].held with
    | none =>
      have hadmit : admitLine s i = s := by simp only [admitLine, hh]
      have hline : s.lines[i].admittedIfHeld s.clock.uptime s.rules.active.lines[i].chatterReleaseMs = s.lines[i] :=
        if_pos hh
      rw [hadmit, ih hl s (by omega), List.filterMap_cons_none (by rw [hh]; rfl), hline]
      simp
    | some e =>
      have hfull : s.fifoFull = false := decide_eq_false (show ¬ 64 ≤ s.fifo.length by omega)
      have hline : s.lines[i].admittedIfHeld s.clock.uptime s.rules.active.lines[i].chatterReleaseMs =
          s.lines[i].admitted s.clock.uptime s.rules.active.lines[i].chatterReleaseMs :=
        if_neg (by rw [hh]; exact Option.some_ne_none e)
      have hadmit : admitLine s i = { s with
          fifo := s.fifo ++ [.front e]
          lines := s.lines.set i (s.lines[i].admitted s.clock.uptime s.rules.active.lines[i].chatterReleaseMs) } := by
        simp only [admitLine, hh, hfull, if_neg Bool.false_ne_true]
      have hheld (j : LineNo) (hj : j ∈ l) (x : Line) : (s.lines.set i x)[j] = s.lines[j] := by
        have hne : i.val ≠ j.val := fun h => hi (Fin.ext h ▸ hj)
        simp [hne]
      rw [hadmit, ih hl _ (by simp; omega), List.filterMap_cons_some (by rw [hh]; rfl), hline]
      simp only [List.append_assoc, List.singleton_append]
      rw [List.filterMap_congr fun j hj => by rw [hheld j hj]]

/-- With no switch DRAINING and the FIFO empty every held entry is admitted (R79). -/
theorem admitHeld_of_empty {s : State} (hd : s.draining = false) (hf : s.fifo = []) : admitHeld s = { s with
    fifo := (List.finRange 32).filterMap fun i => s.lines[i].held.map .front
    lines := admittedLines s.clock.uptime s.rules.active (List.finRange 32) s.lines } := by
  rw [admitHeld, hd, if_neg Bool.false_ne_true, foldl_admitLine _ (List.nodup_finRange 32) s (by simp [hf]), hf]
  rfl

/-! ### SWITCH_DONE (R134) -/

/-- The requester's session is still open exactly when its port's session has its number (R134). -/
theorem requesterOpen_iff {s : State} {h : Holder} :
    s.requesterOpen h = true ↔ s.sessionNumber h.port = some h.session := by
  unfold State.requesterOpen State.sessionNumber
  cases (s.ports.get h.port).session <;> simp

/-- The offer of SWITCH_DONE touches the ports alone (R134). -/
theorem offerSwitchDone_eq (s : State) : offerSwitchDone s = { s with ports := (offerSwitchDone s).ports } := by
  unfold offerSwitchDone
  split
  · rfl
  · split <;> rfl

/-- The end of a switch leaves the ports (R131). -/
theorem endSwitch_ports (o : SwitchOutcome) (s : State) : (endSwitch o s).ports = s.ports := rfl

/-- The end of a switch keeps its requester (R131, R135). -/
theorem endSwitch_switch (o : SwitchOutcome) (s : State) : (endSwitch o s).switch = ⟨.idle, s.switch.requester, o⟩ := rfl

/-- SWITCH_DONE is offered to the requester's port while its session is open (R134). -/
theorem ports_offerSwitchDone_of_open {s : State} {h : Holder} (hr : s.switch.requester = some h)
    (hn : s.sessionNumber h.port = some h.session) : (offerSwitchDone s).ports = s.ports.set h.port
      { s.ports.get h.port with waiting := (s.ports.get h.port).waiting ++ [.switchDone s.switch.outcome] } := by
  simp only [offerSwitchDone, hr, requesterOpen_iff.2 hn, if_true]
  rfl

/-- SWITCH_DONE is not offered once the requester's session has ended (R134). -/
theorem offerSwitchDone_of_closed {s : State}
    (hn : ∀ h, s.switch.requester = some h → s.sessionNumber h.port ≠ some h.session) : offerSwitchDone s = s := by
  unfold offerSwitchDone
  split
  · rfl
  · next h hr => rw [if_neg fun ho => hn h hr (requesterOpen_iff.1 ho)]

/-! ### The whole switch instant (R129 to R131) -/

/-- The close of all and the append of RULESET_SWITCH, with the result of the append (R130). -/
def appendSwitch (s : State) : State × Option Seq :=
  append { body := .rulesetSwitch s.rules.generation (nextSkippingZero s.rules.generation) (closeAllIncidents s).2 }
    (closeAllIncidents s).1

/-- What a switch instant reports (R130). -/
def switchDetails (s : State) : SwitchDetails :=
  ⟨s.rules.generation, nextSkippingZero s.rules.generation, (closeAllIncidents s).2, (appendSwitch s).2⟩

/-- The flags of each line after the switch instant: kept, or those of its new mode (R119). -/
def FlagsFollow (s : State) (lockouts awaiting : LineSet) : Prop :=
  ∀ i : LineNo,
    lockouts.getLsbD i.val = (if s.rules.active.lines[i].mode ≠ s.rules.staged.lines[i].mode then false
      else s.classifier.lockouts.getLsbD i.val) ∧
    awaiting.getLsbD i.val = (if s.rules.active.lines[i].mode ≠ s.rules.staged.lines[i].mode then
      s.rules.staged.lines[i].mode == .capture else s.classifier.awaiting.getLsbD i.val)

/-- The close of all and the append leave the number of every port's session (R130). -/
theorem sessionNumber_appendSwitch (s : State) (p : Port) :
    (appendSwitch s).1.sessionNumber p = s.sessionNumber p := by
  rw [appendSwitch, sessionNumber_append, sessionNumber_closeAllIncidents]

/-- Steps 1 to 4 of the switch instant (R130). -/
theorem installRules_eq (s : State) : ∃ lockouts awaiting, installRules s = ({ (appendSwitch s).1 with
      rules := ⟨s.rules.staged, s.rules.staged, nextSkippingZero s.rules.generation⟩
      lines := switchedLines s.rules.active s.rules.staged s.lines
      nextSample := if s.rules.active.period = s.rules.staged.period then s.nextSample
        else afterUs s.clock.uptime s.rules.staged.period.micros
      classifier := ⟨s.classifier.levels, lockouts, awaiting, s.classifier.inHand⟩ }, switchDetails s) ∧
    FlagsFollow s lockouts awaiting := by
  obtain ⟨lockouts, awaiting, heq, hbits⟩ := classifierSwitch_eq s.rules.active
    (frontEndSwitch s.rules.active (exchangeBanks (appendSwitch s).1))
  rw [frontEndSwitch_eq] at heq hbits
  refine ⟨lockouts, awaiting, Prod.ext ?_ rfl, fun i => ?_⟩
  · rw [installRules, ← appendSwitch, frontEndSwitch_eq, heq]
    simp [exchangeBanks, appendSwitch]
  · simpa [exchangeBanks, appendSwitch] using hbits i

/-- Step 5 of the switch instant and the admission that follows, with the FIFO empty (R79, R131, R134). -/
theorem admitHeld_offerSwitchDone_endSwitch (o : SwitchOutcome) {t : State} (hf : t.fifo = []) :
    admitHeld (offerSwitchDone (endSwitch o t)) = { t with
      switch := ⟨.idle, t.switch.requester, o⟩
      lines := admittedLines t.clock.uptime t.rules.active (List.finRange 32) t.lines
      fifo := (List.finRange 32).filterMap fun i => t.lines[i].held.map .front
      ports := (offerSwitchDone (endSwitch o t)).ports } := by
  have hdone := offerSwitchDone_eq (endSwitch o t)
  have hdraining : (offerSwitchDone (endSwitch o t)).draining = false := by
    rw [hdone]
    rfl
  have hfifo : (offerSwitchDone (endSwitch o t)).fifo = [] := by
    rw [hdone]
    exact hf
  rw [admitHeld_of_empty hdraining hfifo, hdone]
  rfl

/-- The ports after the offer of SWITCH_DONE at the end of the switch instant (R131, R134). -/
def switchedPorts (s : State) : PerPort PortState :=
  (offerSwitchDone (endSwitch (.switched (switchDetails s)) (installRules s).1)).ports

/-- The switch instant, with the FIFO empty: what it makes of each component (R130, R131). -/
theorem takeSwitchInstant_eq {s : State} (hf : s.fifo = []) : ∃ lockouts awaiting,
    takeSwitchInstant s = { (appendSwitch s).1 with
      rules := ⟨s.rules.staged, s.rules.staged, nextSkippingZero s.rules.generation⟩
      switch := ⟨.idle, s.switch.requester, .switched (switchDetails s)⟩
      lines := admittedLines s.clock.uptime s.rules.staged (List.finRange 32)
        (switchedLines s.rules.active s.rules.staged s.lines)
      fifo := (List.finRange 32).filterMap fun i =>
        (switchedLines s.rules.active s.rules.staged s.lines)[i].held.map .front
      nextSample := if s.rules.active.period = s.rules.staged.period then s.nextSample
        else afterUs s.clock.uptime s.rules.staged.period.micros
      classifier := ⟨s.classifier.levels, lockouts, awaiting, s.classifier.inHand⟩
      ports := switchedPorts s } ∧
    FlagsFollow s lockouts awaiting := by
  obtain ⟨lockouts, awaiting, heq, hbits⟩ := installRules_eq s
  refine ⟨lockouts, awaiting, ?_, hbits⟩
  have hfifo : (installRules s).1.fifo = [] := by
    rw [heq]
    simp [appendSwitch, hf]
  rw [takeSwitchInstant, admitHeld_offerSwitchDone_endSwitch _ hfifo, switchedPorts, heq]
  simp [appendSwitch]

/-- The exchange of the banks leaves the ports as the append left them (R130). -/
theorem installRules_ports (s : State) : (installRules s).1.ports = (appendSwitch s).1.ports := by
  obtain ⟨lockouts, awaiting, heq, -⟩ := installRules_eq s
  rw [heq]

/-- The exchange of the banks leaves the switch controller (R130). -/
theorem installRules_switch (s : State) : (installRules s).1.switch = s.switch := by
  obtain ⟨lockouts, awaiting, heq, -⟩ := installRules_eq s
  rw [heq]
  simp [appendSwitch]

/-- The session numbers at the offer of SWITCH_DONE are those before the switch instant (R134). -/
theorem sessionNumber_endSwitch_installRules (s : State) (o : SwitchOutcome) (p : Port) :
    (endSwitch o (installRules s).1).sessionNumber p = s.sessionNumber p := by
  rw [sessionNumber_of_ports (s := (appendSwitch s).1) (by rw [← installRules_ports, endSwitch_ports]),
    sessionNumber_appendSwitch]

/-- SWITCH_DONE waits last on the requester's port while its session is open (R134). -/
theorem switchedPorts_of_open {s : State} {h : Holder} (hr : s.switch.requester = some h)
    (hn : s.sessionNumber h.port = some h.session) : switchedPorts s = (appendSwitch s).1.ports.set h.port
      { (appendSwitch s).1.ports.get h.port with waiting := ((appendSwitch s).1.ports.get h.port).waiting ++
          [.switchDone (.switched (switchDetails s))] } := by
  rw [switchedPorts, ports_offerSwitchDone_of_open (h := h), endSwitch_ports, installRules_ports, endSwitch_switch]
  · rw [endSwitch_switch, installRules_switch, hr]
  · rw [sessionNumber_endSwitch_installRules, hn]

/-- The ports are those after the append once the requester's session has ended (R134). -/
theorem switchedPorts_of_closed {s : State}
    (hn : ∀ h, s.switch.requester = some h → s.sessionNumber h.port ≠ some h.session) :
    switchedPorts s = (appendSwitch s).1.ports := by
  rw [switchedPorts, offerSwitchDone_of_closed, endSwitch_ports, installRules_ports]
  intro h hr
  rw [endSwitch_switch, installRules_switch] at hr
  rw [sessionNumber_endSwitch_installRules]
  exact hn h hr

/-- The FIFO after the switch instant: the held entries of the lines that stay, in line order (R79, R85). -/
theorem held_switchedLines (s : State) :
    ((List.finRange 32).filterMap fun i =>
      (switchedLines s.rules.active s.rules.staged s.lines)[i].held.map FifoEntry.front) =
    ((List.finRange 32).filter fun i => decide (s.rules.active.lines[i].mode = s.rules.staged.lines[i].mode)).filterMap
      fun i => s.lines[i].held.map .front := by
  rw [List.filterMap_filter]
  refine List.filterMap_congr fun i _ => ?_
  rw [getElem_switchedLines]
  by_cases hm : s.rules.active.lines[i].mode = s.rules.staged.lines[i].mode
  · rw [if_pos hm, if_pos (decide_eq_true hm)]
  · rw [if_neg hm, if_neg (by simpa using hm)]
    rfl

/-- A line whose held slot has emptied, with its release timer written out (R72, R79). -/
theorem Line.admitted_eq (l : Line) (now : Uptime) (releaseMs : Nat) : l.admitted now releaseMs = { l with
    held := none
    release := match l.phase with
      | .lockedOut _ => some (now + BitVec.ofNat 48 (releaseMs * 1000))
      | _ => l.release } := by
  rw [Line.admitted]
  cases l.phase <;> rfl

/-- SWITCH_INSTANT happens only DRAINING, with the FIFO empty and no entry in the classifier's hand (R129). -/
theorem execSwitchInstant_of_not_ready {s : State}
    (h : s.switch.phase ≠ .draining ∨ s.fifo ≠ [] ∨ s.classifier.inHand ≠ none) : execSwitchInstant s = .next s := by
  have hready : (s.draining && s.fifo.isEmpty && s.classifier.inHand.isNone) = false := by
    rcases h with h | h | h
    · simp [State.draining, h]
    · simp [h]
    · simp [Option.ne_none_iff_isSome.1 h]
  rw [execSwitchInstant, hready, if_neg Bool.false_ne_true]

/-- A DRAINING switch whose work is done is taken (R129). -/
theorem execSwitchInstant_of_ready {s : State} (hd : s.switch.phase = .draining) (hf : s.fifo = [])
    (hn : s.classifier.inHand = none) : execSwitchInstant s = .next (takeSwitchInstant s) := by
  simp [execSwitchInstant, State.draining, hd, hf, hn]

/-- Settles O51: the switch instant part by part, from the equation of each part. -/
theorem switchInstantInstallsStaged : Obligations.SwitchInstantInstallsStaged := by
  refine ⟨?_, fun s h => execSwitchInstant_of_not_ready h⟩
  intro s hd hf hn old new generation slots closed appended outcome same
  have hgeneration : nextSkippingZero s.rules.generation = generation := nextSkippingZero_eq _
  have happended : appendSwitch s = appended := by
    rw [appendSwitch, hgeneration, closeAllIncidents_eq]
    rfl
  have houtcome : .switched (switchDetails s) = outcome := by
    rw [switchDetails, happended, hgeneration, closeAllIncidents_eq]
  obtain ⟨lockouts, awaiting, heq, hflags⟩ := takeSwitchInstant_eq hf
  rw [held_switchedLines, hgeneration, houtcome, happended, hn] at heq
  refine ⟨_, lockouts, awaiting, _, (execSwitchInstant_of_ready hd hf hn).trans (congrArg Host.Outcome.next heq),
    fun i => ?_, fun h ses hr hs hnum => ?_, fun hnum => ?_⟩
  · obtain ⟨hlockouts, hawaiting⟩ := hflags i
    rw [getElem_admittedLines, getElem_switchedLines, hlockouts, hawaiting]
    by_cases hm : old.lines[i].mode = new.lines[i].mode
    · have hsame : same i = true := decide_eq_true hm
      rw [if_pos hm, if_neg (not_not_intro hm), if_neg (not_not_intro hm), hsame]
      refine ⟨nofun, fun _ hh => if_pos hh, fun _ hh => ?_, rfl, rfl⟩
      exact (if_neg hh).trans (Line.admitted_eq _ _ _)
    · have hsame : same i = false := decide_eq_false hm
      rw [if_neg hm, if_pos hm, if_pos hm, hsame]
      exact ⟨fun _ => rfl, nofun, nofun, rfl, rfl⟩
  · rw [switchedPorts_of_open hr (by simp [State.sessionNumber, hs, hnum]), houtcome, happended]
  · rw [switchedPorts_of_closed, happended]
    intro h hr hnumber
    obtain ⟨ses, hs, hses⟩ := Option.map_eq_some_iff.1 hnumber
    exact hnum h ses hr hs hses

end Sys2Proof.Machine
end

section
/-!
PROOFS. The lines and the event FIFO as the statements of chapter 4 describe them: offering and admitting entries (R77,
R79, R80), confirmed changes and chatter (R69 to R73), and the sample instant (R65 to R68, R72, R84, R86). Its proofs
are checked one after another (Elab.async off), within the memory of one.
-/
namespace Sys2Proof.Machine
set_option Elab.async false

/-! ### One line written (Table 4-1) -/

@[simp] theorem State.setLine_getElem_self (s : State) (i : LineNo) (l : Line) : (s.setLine i l).lines[i] = l := by
  simp

@[simp] theorem State.setLine_setLine (s : State) (i : LineNo) (l m : Line) :
    (s.setLine i l).setLine i m = s.setLine i m := by
  simp [State.setLine]

/-! ### Offering an entry (R77, R80) -/

theorem anyHeld_eq_false_iff {s : State} : s.anyHeld = false ↔ ∀ j : LineNo, s.lines[j].held = none := by
  simp [State.anyHeld]

/-- An entry can enter the FIFO when there is room, no switch is DRAINING and no entry is held (R77). -/
theorem admits_iff {s : State} : s.admits = true ↔
    s.fifo.length < 64 ∧ s.switch.phase ≠ .draining ∧ ∀ j : LineNo, s.lines[j].held = none := by
  simp only [State.admits, Bool.and_eq_true, Bool.not_eq_true', anyHeld_eq_false_iff, State.fifoFull, State.draining,
    decide_eq_false_iff_not, Nat.not_le, beq_eq_false_iff_ne, and_assoc, Config.fifoCapacity]

theorem FrontEntry.markHeld_eq (e : FrontEntry) : e.markHeld = match e with
    | .change c => .change { c with wasHeld := true }
    | .release r => .release { r with wasHeld := true } := by
  cases e <;> rfl

theorem offerEntry_of_admits {s : State} (h : s.admits = true) (i : LineNo) (e : FrontEntry) :
    offerEntry i e s = { s with fifo := s.fifo ++ [.front e] } := if_pos h

theorem offerEntry_of_not_admits {s : State} (h : ¬ s.admits = true) (i : LineNo) (e : FrontEntry) :
    offerEntry i e s = raise .eventsHeld .none (s.setLine i { s.lines[i] with held := some e.markHeld }) := if_neg h

/-- TAKE_SNAPSHOT for a ready request: the marker at the tail, or BUSY (R80). -/
theorem exec_takeSnapshot {s : State} {p : Port} {q : Request} (h : Ready s p .takeSnapshot q) :
    exec (.takeSnapshot p) s = .next (if s.admits then
      { s.putInHand p with fifo := s.fifo ++ [FifoEntry.marker p] }.replied p q .ok .none
    else (s.putInHand p).replied p q .busy .none) := by
  refine (congrArg Host.Outcome.next (request_ready (takeSnapshotBlock p) h)).trans ?_
  have hadmits : (s.putInHand p).admits = s.admits := rfl
  rw [takeSnapshotBlock, hadmits]
  split <;> rfl

/-! ### Admitting held entries (R79) -/

/-- A full FIFO admits nothing (R79). -/
theorem foldl_admitLine_of_full {s : State} (h : s.fifoFull = true) (l : List LineNo) : l.foldl admitLine s = s := by
  induction l with
  | nil => rfl
  | cons i l ih =>
    have hstay : admitLine s i = s := by
      unfold admitLine
      split
      · rfl
      · rw [if_pos h]
    rw [List.foldl_cons, hstay, ih]

/-- The lines of a list that the arbiter admits, in their order: those with a held entry, as far as the FIFO has room
(R79). -/
def State.admissible (s : State) (l : List LineNo) : List LineNo :=
  (l.filter fun i => s.lines[i].held.isSome).take (64 - s.fifo.length)

theorem mem_of_mem_admissible {s : State} {l : List LineNo} {i : LineNo} (h : i ∈ s.admissible l) :
    i ∈ l ∧ s.lines[i].held.isSome = true :=
  List.mem_filter.1 (List.mem_of_mem_take h)

/-- A line with nothing held is passed over (R79). -/
theorem admitLine_of_none {s : State} {i : LineNo} (h : s.lines[i].held = none) : admitLine s i = s := by
  simp only [admitLine, h]

/-- With room in the FIFO a held entry is admitted (R79). -/
theorem admitLine_of_held {s : State} {i : LineNo} {e : FrontEntry} (h : s.lines[i].held = some e)
    (hroom : s.fifo.length < 64) : admitLine s i = { s with
      fifo := s.fifo ++ [.front e]
      lines := s.lines.set i (s.lines[i].admittedIfHeld s.clock.uptime s.rules.active.lines[i].chatterReleaseMs) } := by
  have hfull : s.fifoFull = false := decide_eq_false (Nat.not_le.2 hroom)
  have hheld : s.lines[i].held ≠ none := ne_of_eq_of_ne h (Option.some_ne_none e)
  rw [Line.admittedIfHeld, if_neg hheld]
  simp only [admitLine, h, hfull, if_neg Bool.false_ne_true]

theorem admissible_cons_of_none {s : State} {i : LineNo} (h : s.lines[i].held = none) (l : List LineNo) :
    s.admissible (i :: l) = s.admissible l := by
  rw [State.admissible, List.filter_cons_of_neg (by rw [h]; exact Bool.false_ne_true), State.admissible]

theorem admissible_of_full {s : State} (h : 64 ≤ s.fifo.length) (l : List LineNo) : s.admissible l = [] := by
  rw [State.admissible, Nat.sub_eq_zero_of_le h, List.take_zero]

/-- The first line of a list, with a held entry and room, is admitted, and behind it those of the rest that are still
admissible then (R79). -/
theorem admissible_cons_of_held {s : State} {i : LineNo} {e : FrontEntry} (h : s.lines[i].held = some e)
    (hroom : s.fifo.length < 64) {l : List LineNo} (hi : i ∉ l) :
    s.admissible (i :: l) = i :: (admitLine s i).admissible l := by
  obtain ⟨n, hn⟩ : ∃ n, 64 - s.fifo.length = n + 1 := ⟨63 - s.fifo.length, by omega⟩
  rw [State.admissible, List.filter_cons_of_pos (by rw [h]; rfl), hn, List.take_succ_cons, admitLine_of_held h hroom,
    State.admissible]
  congr 2
  · simp; omega
  · refine List.filter_congr fun j hj => ?_
    have hne : i.val ≠ j.val := fun h => hi (Fin.ext h ▸ hj)
    simp [hne]

theorem admittedLines_cons (now : Uptime) (b : Bank) (i : LineNo) (l : List LineNo) (lines : Vector Line 32) :
    admittedLines now b (i :: l) lines =
      admittedLines now b l (lines.set i (lines[i].admittedIfHeld now b.lines[i].chatterReleaseMs)) := rfl

/-- The lines of a list are offered to the arbiter in their order, and it admits the admissible ones (R79). -/
theorem foldl_admitLine_eq (l : List LineNo) (hl : l.Nodup) (s : State) : l.foldl admitLine s = { s with
    fifo := s.fifo ++ (s.admissible l).filterMap fun i => s.lines[i].held.map .front
    lines := admittedLines s.clock.uptime s.rules.active (s.admissible l) s.lines } := by
  induction l generalizing s with
  | nil => simp [State.admissible, admittedLines]
  | cons i l ih =>
    obtain ⟨hi, hl⟩ := List.nodup_cons.1 hl
    cases hh : s.lines[i].held with
    | none => rw [List.foldl_cons, admitLine_of_none hh, admissible_cons_of_none hh, ih hl]
    | some e =>
      rcases Nat.lt_or_ge s.fifo.length 64 with hroom | hfull
      · have hother (x : Line) {j : LineNo} (hj : j ∈ (admitLine s i).admissible l) :
            (s.lines.set i x)[j] = s.lines[j] := by
          have hne : i.val ≠ j.val := fun h => hi (Fin.ext h ▸ (mem_of_mem_admissible hj).1)
          simp [hne]
        rw [List.foldl_cons, ih hl, admissible_cons_of_held hh hroom hi, List.filterMap_cons_some (by rw [hh]; rfl),
          admittedLines_cons]
        simp only [admitLine_of_held hh hroom, List.append_assoc, List.singleton_append] at hother ⊢
        rw [List.filterMap_congr fun j hj => by rw [hother _ hj]]
      · rw [foldl_admitLine_of_full (decide_eq_true hfull), admissible_of_full hfull]
        simp [admittedLines]

theorem nodup_admissible {s : State} {l : List LineNo} (hl : l.Nodup) : (s.admissible l).Nodup :=
  (hl.filter _).sublist (List.take_sublist _ _)

/-- A line among those admitted has had its held entry taken; any other is as it was (R79). -/
theorem getElem_admittedLines_of_nodup (now : Uptime) (b : Bank) {l : List LineNo} (hl : l.Nodup)
    (lines : Vector Line 32) (i : LineNo) : (admittedLines now b l lines)[i] =
      if i ∈ l then lines[i].admittedIfHeld now b.lines[i].chatterReleaseMs else lines[i] :=
  getElem_foldl_set (fun (i : LineNo) (l : Line) => l.admittedIfHeld now b.lines[i].chatterReleaseMs) l hl lines i

/-- While a switch is DRAINING nothing is admitted (R79). -/
theorem admitHeld_of_draining {s : State} (h : s.switch.phase = .draining) : admitHeld s = s :=
  if_pos (beq_iff_eq.2 h)

/-- With no switch DRAINING the admissible lines, in ascending order, have their held entries admitted (R79). -/
theorem admitHeld_of_not_draining {s : State} (h : s.switch.phase ≠ .draining) : admitHeld s = { s with
    fifo := s.fifo ++ (s.admissible (List.finRange 32)).filterMap fun i => s.lines[i].held.map .front
    lines := admittedLines s.clock.uptime s.rules.active (s.admissible (List.finRange 32)) s.lines } :=
  (if_neg (by rwa [State.draining, beq_iff_eq])).trans (foldl_admitLine_eq _ (List.nodup_finRange 32) s)

/-- Settles O40: an entry is offered where `admits` says so, and the admissible lines are those of R79. -/
theorem entriesEnterFifoOrAreHeld : Obligations.EntriesEnterFifoOrAreHeld := by
  refine ⟨?_, ?_⟩
  · intro s free
    refine ⟨fun i e => ⟨fun h => offerEntry_of_admits (admits_iff.2 h) i e, fun h => ?_⟩,
      fun p q hq => ⟨fun h => ?_, fun h => ?_⟩⟩
    · rw [offerEntry_of_not_admits (mt admits_iff.1 h), FrontEntry.markHeld_eq]
      rfl
    · rw [exec_takeSnapshot hq, if_pos (admits_iff.2 h)]
    · rw [exec_takeSnapshot hq, if_neg (mt admits_iff.1 h)]
  · intro s waiting admitted
    have hnodup : (s.admissible (List.finRange 32)).Nodup := nodup_admissible (List.nodup_finRange 32)
    refine ⟨fun h => congrArg Host.Outcome.next (admitHeld_of_draining h),
      fun h => ⟨_, congrArg Host.Outcome.next (admitHeld_of_not_draining h), fun i => ⟨fun hi => ?_, fun hi => ?_⟩⟩⟩
    · exact (getElem_admittedLines_of_nodup _ _ hnodup _ _).trans (if_neg hi)
    · have hi : i ∈ s.admissible (List.finRange 32) := hi
      rw [getElem_admittedLines_of_nodup _ _ hnodup, if_pos hi, Line.admittedIfHeld,
        if_neg (Option.isSome_iff_ne_none.1 (mem_of_mem_admissible hi).2)]
      exact Line.admitted_eq _ _ _

/-! ### Confirmed changes and chatter (R69 to R73) -/

/-- A line whose change to `level` has just been confirmed, before its lockout (R69). -/
def Line.confirmed (now : Uptime) (rule : LineRule) (level : Level) (l : Line) : Line :=
  { l with
    settled := level
    chatterCount := bumpChatter l.chatterCount
    phase := .idle
    window := if l.chatterCount = 0 then some (afterMs now rule.chatterWindowMs) else l.window }

/-- A line as it enters LOCKED_OUT, its release timer not yet started (R71). -/
def Line.lockedAt (level : Level) (l : Line) : Line :=
  { l with phase := .lockedOut level, window := none, release := none }

/-- A line whose release timer starts, or restarts, now (R71, R72). -/
def Line.releasing (now : Uptime) (rule : LineRule) (l : Line) : Line :=
  { l with release := some (afterMs now rule.chatterReleaseMs) }

/-- A change that reaches no chatter limit settles the line and is offered (R69). -/
theorem confirmChange_of_not_locks {s : State} {i : LineNo}
    (h : locksOut s.rules.active.lines[i] (bumpChatter s.lines[i].chatterCount) = false) (level : Level) (stamp : Stamp)
    (uptime : Uptime) : confirmChange i level stamp uptime s =
      offerEntry i (.change ⟨i, level, stamp, uptime, none, false⟩)
        (s.setLine i (s.lines[i].confirmed s.clock.uptime s.rules.active.lines[i] level)) := by
  simp only [confirmChange, h, if_neg Bool.false_ne_true]
  rfl

/-- A change that reaches the chatter limit locks its line out: CHATTER_LOCK, the offer, and the release timer once
nothing is held (R69, R71, log 18). -/
theorem confirmChange_of_locks {s : State} {i : LineNo}
    (h : locksOut s.rules.active.lines[i] (bumpChatter s.lines[i].chatterCount) = true) (level : Level) (stamp : Stamp)
    (uptime : Uptime) {t : State}
    (ht : offerEntry i (.change ⟨i, level, stamp, uptime, some (bumpChatter s.lines[i].chatterCount), false⟩)
      (raise .chatterLock (.line i) (s.setLine i
        ((s.lines[i].confirmed s.clock.uptime s.rules.active.lines[i] level).lockedAt level))) = t) :
    confirmChange i level stamp uptime s = if t.lines[i].held.isSome then t
      else t.setLine i (t.lines[i].releasing s.clock.uptime s.rules.active.lines[i]) := by
  subst ht
  simp only [confirmChange, h, if_true, lockOut, State.setLine_getElem_self, State.setLine_setLine, offerEntry_frame,
    raise_frame, State.setLine_clock, State.setLine_rules]
  rfl

theorem locksOut_iff {rule : LineRule} {count : Nat} :
    locksOut rule count = true ↔ rule.chatterLimit ≠ 0 ∧ rule.chatterLimit ≤ count := by
  simp [locksOut]

theorem expired_eq_false_iff {now : Uptime} {timer : Option Uptime} :
    expired now timer = false ↔ ∀ d, timer = some d → reached now d = false := by
  cases timer <;> simp [expired]

theorem expired_of_some {now d : Uptime} {timer : Option Uptime} (ht : timer = some d) (h : reached now d = true) :
    expired now timer = true := by
  rw [ht]
  exact h

/-- CHATTER_WINDOW_EXPIRY (R70). -/
theorem exec_chatterWindowExpiry (i : LineNo) (s : State) : exec (.chatterWindowExpiry i) s =
    .next (if expired s.clock.uptime s.lines[i].window then
      s.setLine i { s.lines[i] with chatterCount := 0, window := none } else s) := rfl

/-- RELEASE_TIMER_EXPIRY of a stopped timer, or before its deadline (R73). -/
theorem exec_releaseTimerExpiry_of_not_expired {s : State} {i : LineNo}
    (h : expired s.clock.uptime s.lines[i].release = false) : exec (.releaseTimerExpiry i) s = .next s := by
  simp only [exec, execReleaseTimerExpiry, h, if_neg Bool.false_ne_true]
  split <;> rfl

/-- RELEASE_TIMER_EXPIRY of a LOCKED_OUT line at its deadline (R73). -/
theorem exec_releaseTimerExpiry_of_expired {s : State} {i : LineNo} {level : Level}
    (hphase : s.lines[i].phase = .lockedOut level) (h : expired s.clock.uptime s.lines[i].release = true) :
    exec (.releaseTimerExpiry i) s = .next (releaseLine i level s) := by
  simp only [exec, execReleaseTimerExpiry, hphase, h, if_true]

/-- Settles O39: the confirmation by its two cases, and the two expiries. -/
theorem confirmedChangesAndChatter : Obligations.ConfirmedChangesAndChatter := by
  refine ⟨?_, ?_⟩
  · intro i level stamp uptime s rule l count settled locks
    refine ⟨fun h => ?_, fun h => ?_⟩
    · exact confirmChange_of_not_locks (Bool.eq_false_iff.2 (mt locksOut_iff.1 h)) level stamp uptime
    · intro t
      rw [confirmChange_of_locks (locksOut_iff.2 h) level stamp uptime (t := t) rfl]
      exact ⟨fun hheld => if_pos (Option.isSome_iff_ne_none.2 hheld),
        fun hheld => if_neg (by rw [hheld]; exact Bool.false_ne_true)⟩
  · intro i s l
    refine ⟨fun h => ?_, fun d hd h => ?_, fun h => ?_, fun d level hd h hphase => ?_⟩
    · have hexpired : expired s.clock.uptime s.lines[i].window = false := expired_eq_false_iff.2 h
      rw [exec_chatterWindowExpiry, hexpired, if_neg Bool.false_ne_true]
    · have hexpired : expired s.clock.uptime s.lines[i].window = true := expired_of_some hd h
      rw [exec_chatterWindowExpiry, if_pos hexpired]
      rfl
    · exact exec_releaseTimerExpiry_of_not_expired (expired_eq_false_iff.2 h)
    · exact exec_releaseTimerExpiry_of_expired hphase (expired_of_some hd h)

/-! ### The schedule of sample instants (R65) -/

theorem SamplePeriod.micros_pos (x : SamplePeriod) : 0 < x.micros := by
  cases x <;> decide

theorem SamplePeriod.micros_le (x : SamplePeriod) : x.micros ≤ 500 := by
  cases x <;> decide

/-- The next instant lies a whole number of periods after the one taken, and ahead of now by at most one period (R65,
log 7). -/
theorem nextInstant_spec {now scheduled : Uptime} (h : reached now scheduled = true) (x : SamplePeriod) :
    (nextInstant now scheduled x - now).toNat = x.micros - (now - scheduled).toNat % x.micros ∧
      (nextInstant now scheduled x - scheduled).toNat = ((now - scheduled).toNat / x.micros + 1) * x.micros := by
  have hpos := x.micros_pos
  have hle := x.micros_le
  have hlate : (now - scheduled).toNat < 2 ^ 47 := of_decide_eq_true h
  obtain ⟨late, hl⟩ : ∃ n, (now - scheduled).toNat = n := ⟨_, rfl⟩
  rw [hl] at hlate ⊢
  have hmod := Nat.mod_lt late hpos
  have hdiv := Nat.div_add_mod late x.micros
  have hahead : (late / x.micros + 1) * x.micros = late + (x.micros - late % x.micros) := by
    rw [Nat.add_mul, Nat.mul_comm]
    omega
  have hnow : now = scheduled + BitVec.ofNat 48 late := by
    rw [← hl]
    bv_omega
  have hnext : nextInstant now scheduled x = scheduled + BitVec.ofNat 48 ((late / x.micros + 1) * x.micros) := by
    rw [nextInstant, elapsedUs, hl]
    rfl
  rw [hnext, hahead, hnow]
  obtain ⟨ahead, ha⟩ : ∃ n, x.micros - late % x.micros = n := ⟨_, rfl⟩
  rw [ha]
  constructor <;> bv_omega

/-- SAMPLE_INSTANT, before and after its deadline (R65). -/
theorem exec_sampleInstant (pins : BitVec 32) (s : State) : exec (.sampleInstant pins) s =
    .next (if reached s.clock.uptime s.nextSample then sampleAll pins s else s) := rfl

/-! ### One line at a sample instant (R65 to R68, R72, R84, R86) -/

theorem logicalLevel_eq (polarity : Polarity) (raw : Bool) :
    logicalLevel polarity raw = if raw = (polarity == .normal) then .high else .low := by
  cases polarity <;> cases raw <;> rfl

/-- The front end takes the samples of a line in CAPTURE, of line 31 only with SYNC off (R65, R86). -/
theorem captures_iff {s : State} {i : LineNo} : s.captures i = true ↔
    s.rules.active.lines[i].mode = .capture ∧ (i = 31 → s.clock.options.syncEnable = false) := by
  simp only [State.captures, Bool.and_eq_true, beq_iff_eq, Bool.not_eq_true', Bool.and_eq_false_iff,
    beq_eq_false_iff_ne]
  tauto

/-- A line with the raw and the logical level of a sample recorded (R65, R66). -/
def Line.sampled (pins : BitVec 32) (i : LineNo) (rule : LineRule) (l : Line) : Line :=
  { l with raw := pins.getLsbD i.val, latest := logicalLevel rule.polarity (pins.getLsbD i.val) }

/-- A line not captured has its levels recorded and nothing else (R65, R66, R86). -/
theorem sampleLine_of_not_captures {s : State} {i : LineNo} (h : ¬ s.captures i = true) (pins : BitVec 32) :
    sampleLine pins s i = s.setLine i (s.lines[i].sampled pins i s.rules.active.lines[i]) := if_neg h

/-- A captured line has its levels recorded and takes the sample (R65). -/
theorem sampleLine_of_captures {s : State} {i : LineNo} (h : s.captures i = true) (pins : BitVec 32) {l : Line}
    (hl : s.lines[i].sampled pins i s.rules.active.lines[i] = l) :
    sampleLine pins s i = takeSample i l.latest (l.latest != s.lines[i].latest) (s.setLine i l) := by
  subst hl
  exact if_pos h

theorem takeSample_of_off {s : State} {i : LineNo} (h : s.lines[i].phase = .off) (level : Level) (changes : Bool) :
    takeSample i level changes s = primeLine i level s := by
  simp only [takeSample, h]

theorem takeSample_of_idle {s : State} {i : LineNo} (h : s.lines[i].phase = .idle) (level : Level) (changes : Bool) :
    takeSample i level changes s =
      if level = s.lines[i].settled ∨ s.lines[i].held.isSome then s else startConfirmation i level s := by
  simp only [takeSample, h]

theorem takeSample_of_confirming {s : State} {i : LineNo} {count : Nat} {stamp : Stamp} {uptime : Uptime}
    (h : s.lines[i].phase = .confirming count stamp uptime) (level : Level) (changes : Bool) :
    takeSample i level changes s = takeConfirming i level count stamp uptime s := by
  simp only [takeSample, h]

theorem takeSample_of_lockedOut {s : State} {i : LineNo} {x : Level} (h : s.lines[i].phase = .lockedOut x)
    (level : Level) (changes : Bool) : takeSample i level changes s = takeLockedOut i changes s := by
  simp only [takeSample, h]

/-- A line to be primed, with its levels recorded: the line and the classifier's bits of it (R84, R119). -/
theorem primeLine_setLine (i : LineNo) (level : Level) (s : State) (l : Line) :
    primeLine i level (s.setLine i l) = { s with
      lines := s.lines.set i { l with
        settled := level, phase := .idle, chatterCount := 0, window := none, release := none }
      classifier := { s.classifier with
        levels := putLine s.classifier.levels i (level == .high)
        awaiting := putLine s.classifier.awaiting i false } } := by
  rw [primeLine, State.setLine_getElem_self]
  simp [State.setLine]

theorem startConfirmation_setLine (i : LineNo) (level : Level) (s : State) (l : Line) :
    startConfirmation i level (s.setLine i l) = if s.rules.active.lines[i].debounce ≤ 1 then
        confirmChange i level s.stampNow s.clock.uptime (s.setLine i l)
      else s.setLine i { l with phase := .confirming 1 s.stampNow s.clock.uptime } := by
  rw [startConfirmation, State.setLine_getElem_self, State.setLine_setLine]
  rfl

theorem takeConfirming_setLine (i : LineNo) (level : Level) (count : Nat) (stamp : Stamp) (uptime : Uptime) (s : State)
    (l : Line) : takeConfirming i level count stamp uptime (s.setLine i l) =
      if level = l.settled then s.setLine i { l with phase := .idle }
      else if s.rules.active.lines[i].debounce ≤ count + 1 then confirmChange i level stamp uptime (s.setLine i l)
      else s.setLine i { l with phase := .confirming (count + 1) stamp uptime } := by
  rw [takeConfirming, State.setLine_getElem_self, State.setLine_setLine, State.setLine_setLine]
  rfl

theorem takeLockedOut_setLine (i : LineNo) (changes : Bool) (s : State) (l : Line) :
    takeLockedOut i changes (s.setLine i l) = if changes && l.release.isSome then
        s.setLine i (l.releasing s.clock.uptime s.rules.active.lines[i])
      else s.setLine i l := by
  rw [takeLockedOut, State.setLine_getElem_self, State.setLine_setLine]
  rfl

/-- Settles O38: the schedule, and one line's sample by the state of the line. -/
theorem sampleInstantSamplesEachLine : Obligations.SampleInstantSamplesEachLine := by
  refine ⟨?_, ?_⟩
  · intro pins s period late
    have hperiod : s.rules.active.period.micros = period := by
      simp only [period]
      cases s.rules.active.period <;> rfl
    refine ⟨fun h => ?_, fun h => ⟨nextInstant s.clock.uptime s.nextSample s.rules.active.period, ?_, ?_⟩⟩
    · rw [exec_sampleInstant, h, if_neg Bool.false_ne_true]
    · rw [exec_sampleInstant, if_pos h, sampleAll]
    · obtain ⟨hahead, hwhole⟩ := nextInstant_spec h s.rules.active.period
      have hmod := Nat.mod_lt late s.rules.active.period.micros_pos
      rw [hahead, hwhole, hperiod]
      rw [hperiod] at hmod
      have hwhole : late + (period - late % period) = (late / period + 1) * period := by
        have := Nat.div_add_mod' late period
        rw [Nat.add_mul]
        omega
      refine ⟨Nat.sub_pos_of_lt hmod, Nat.sub_le _ _, hwhole.symm, hwhole ▸ Dvd.intro_left _ rfl⟩
  · intro pins i s rule l level sampled u become captured now
    have hsampled : s.lines[i].sampled pins i s.rules.active.lines[i] = sampled := by
      rw [Line.sampled, logicalLevel_eq]
    refine ⟨fun h => ?_, fun h => ?_⟩
    · rw [sampleLine_of_not_captures (mt captures_iff.1 h), hsampled]
      rfl
    have htake : sampleLine pins s i = takeSample i level (level != l.latest) (s.setLine i sampled) :=
      sampleLine_of_captures (captures_iff.2 h) pins hsampled
    have hself (x : LinePhase) (hx : l.phase = x) : (s.setLine i sampled).lines[i].phase = x := by
      rw [State.setLine_getElem_self]
      exact hx
    rw [htake]
    refine ⟨fun hphase => ⟨_, _, ?_, fun j => ⟨getLsbD_putLine _ i j _, getLsbD_putLine _ i j _⟩⟩,
      fun hphase hstays => ?_, fun hphase hdiffers hempty => ?_, fun count stamp uptime hphase => ?_,
      fun x hphase => ?_⟩
    · rw [takeSample_of_off (hself _ hphase), primeLine_setLine]
    · rw [takeSample_of_idle (hself _ hphase), State.setLine_getElem_self]
      exact if_pos hstays
    · have hstarts : ¬ (level = sampled.settled ∨ sampled.held.isSome = true) := by
        rw [show sampled.held = none from hempty]
        simpa using hdiffers
      rw [takeSample_of_idle (hself _ hphase), State.setLine_getElem_self, if_neg hstarts, startConfirmation_setLine]
      exact ⟨fun hlong => if_neg (Nat.not_le.2 hlong), fun hone => if_pos hone⟩
    · rw [takeSample_of_confirming (hself _ hphase), takeConfirming_setLine]
      refine ⟨fun hbounce => if_pos hbounce, fun hdiffers hshort => ?_, fun hdiffers hlong => ?_⟩
      · rw [if_neg hdiffers, if_neg (Nat.not_le.2 hshort)]
        rfl
      · rw [if_neg hdiffers, if_pos hlong]
        rfl
    · rw [takeSample_of_lockedOut (hself _ hphase), takeLockedOut_setLine]
      refine ⟨fun hchanges hruns => if_pos ?_, fun hstays => if_neg ?_⟩
      · rw [Bool.and_eq_true, bne_iff_ne]
        exact ⟨hchanges, hruns⟩
      · rw [Bool.and_eq_true, bne_iff_ne]
        rintro ⟨hchanges, hruns⟩
        rcases hstays with hsame | hstopped
        · exact hchanges hsame
        · exact Option.ne_none_iff_isSome.2 hruns hstopped

end Sys2Proof.Machine
end

section
/-!
PROOFS. The requests that report the state and change nothing (R81, R102, R111, R135, R149).
-/
namespace Sys2Proof.Machine

/-! ### What is reported -/

theorem lineReport_eq (l : Line) : lineReport l = ⟨l.raw, l.settled, match l.phase with
    | .off => .off
    | .idle => .idle
    | .confirming _ _ _ => .confirming
    | .lockedOut _ => .lockedOut, l.held.isSome, l.chatterCount⟩ := by
  rw [lineReport]
  cases l.phase <;> rfl

theorem SwitchPhase.name_eq (x : SwitchPhase) : x.name = match x with
    | .idle => .idle
    | .validating _ _ => .validating
    | .draining => .draining := by
  cases x <;> rfl

/-- The bits of a set gathered line by line. -/
theorem getLsbD_foldl_or (f : LineNo → Bool) (l : List LineNo) (set : LineSet) (j : LineNo) :
    (l.foldl (fun acc i => if f i then acc ||| (1#32 <<< i.val) else acc) set).getLsbD j.val =
      (set.getLsbD j.val || decide (j ∈ l) && f j) := by
  induction l generalizing set with
  | nil => simp
  | cons i l ih =>
    have hbit : (if f i then set ||| (1#32 <<< i.val) else set).getLsbD j.val =
        (set.getLsbD j.val || decide (j = i) && f j) := by
      split
      · next hi =>
        refine (getLsbD_putLine set i j true).trans ?_
        by_cases hj : j = i <;> simp_all
      · next hi => by_cases hj : j = i <;> simp_all
    rw [List.foldl_cons, ih, hbit, Bool.or_assoc, ← Bool.and_or_distrib_right]
    simp only [List.mem_cons, Bool.decide_or]

/-- Bit `j` of the set of lines for which `f` holds. -/
theorem getLsbD_lineSetOf (f : LineNo → Bool) (j : LineNo) : (lineSetOf f).getLsbD j.val = f j := by
  rw [lineSetOf, getLsbD_foldl_or]
  simp

/-- The lowest occupied slot is absent when the table has none (R149). -/
theorem ExceptionTable.lowest_eq_none_iff {t : ExceptionTable} : t.lowest = none ↔ ∀ i : SlotNo, t.slots[i] = none := by
  simp [ExceptionTable.lowest]

/-- The lowest occupied slot is occupied, and none below it is (R149). -/
theorem ExceptionTable.lowest_eq_some {t : ExceptionTable} {i : SlotNo} (h : t.lowest = some i) :
    t.slots[i] ≠ none ∧ ∀ j : SlotNo, j < i → t.slots[j] = none := by
  obtain ⟨hi, k, hk, hki, hbelow⟩ := List.find?_eq_some_iff_getElem.1 h
  rw [List.getElem_finRange] at hki
  subst hki
  refine ⟨Option.isSome_iff_ne_none.1 hi, fun j hj => ?_⟩
  simpa using hbelow j.val hj

/-! ### READ_RULE (R111) -/

theorem readRuleOf_payload (x y z : Byte) : readRuleOf [x, y, z] = (bankOf x.toNat).bind fun bank =>
    (entryKindOf y.toNat).bind fun kind => (ruleIndexOf kind z.toNat).bind fun index => some (bank, kind, index) := rfl

theorem bankOf_eq_none {n : Nat} (h : 1 < n) : bankOf n = none := by
  match n, h with
  | n + 2, _ => rfl

theorem entryKindOf_eq_none {n : Nat} (h : 2 < n) : entryKindOf n = none := by
  match n, h with
  | n + 3, _ => rfl

theorem bankOf_byte {x : Byte} (h : x.toNat ≤ 1) : bankOf x.toNat = some (if x = 0 then .active else .staged) := by
  rcases Nat.le_one_iff_eq_zero_or_eq_one.1 h with h0 | h1
  · rw [h0, if_pos (BitVec.eq_of_toNat_eq h0)]
    rfl
  · rw [h1, if_neg (by rintro rfl; exact absurd h1 (by decide))]
    rfl

theorem finOf_val {n v : Nat} {i : Fin n} (h : i.val = v) : finOf n v = some i := by
  subst h
  exact dif_pos i.isLt

theorem finOf_eq_none {n v : Nat} (h : n ≤ v) : finOf n v = none := dif_neg (Nat.not_lt.2 h)

/-- A bank, a kind or an index out of range names no entry (R111, R170). -/
theorem readRuleOf_eq_none {x y z : Byte}
    (h : 1 < x.toNat ∨ 2 < y.toNat ∨ (y = 0 ∧ 32 ≤ z.toNat) ∨ (y = 1 ∧ 16 ≤ z.toNat)) :
    readRuleOf [x, y, z] = none := by
  rw [readRuleOf_payload]
  rcases h with hx | h
  · rw [bankOf_eq_none hx]
    rfl
  refine (congrArg (Option.bind _) (funext fun bank => ?_)).trans (Option.bind_fun_none _)
  have hline (hz : 32 ≤ z.toNat) : ruleIndexOf .line z.toNat = none :=
    congrArg (Option.map _) (finOf_eq_none hz)
  have hgroup (hz : 16 ≤ z.toNat) : ruleIndexOf .group z.toNat = none :=
    congrArg (Option.map _) (finOf_eq_none hz)
  rcases h with hy | ⟨rfl, hz⟩ | ⟨rfl, hz⟩
  · rw [entryKindOf_eq_none hy]
    rfl
  · exact congrArg (Option.bind · _) (hline hz)
  · exact congrArg (Option.bind · _) (hgroup hz)

/-- READ_RULE of an entry that its three fields name (R111). -/
theorem exec_readRule {p : Port} {s : State} {q : Request} {x y z : Byte} (h : Ready s p .readRule q)
    (hq : q.payload = [x, y, z]) (hx : x.toNat ≤ 1) {kind : EntryKind} (hkind : entryKindOf y.toNat = some kind)
    {index : RuleIndex} (hindex : ruleIndexOf kind z.toNat = some index) :
    exec (.readRule p) s = .next ((s.putInHand p).replied p q .ok (.rule ⟨if x = 0 then .active else .staged, kind,
      z.toNat, s.rules.generation, decide (s.switch.phase ≠ .idle),
      (if x = 0 then s.rules.active else s.rules.staged).entry index⟩)) := by
  have hnamed : readRuleOf [x, y, z] = some (if x = 0 then .active else .staged, kind, index) := by
    rw [readRuleOf_payload, bankOf_byte hx, Option.bind_some, hkind, Option.bind_some, hindex, Option.bind_some]
  have hbank : s.rules.bank (if x = 0 then .active else .staged) = if x = 0 then s.rules.active else s.rules.staged :=
    apply_ite s.rules.bank (x = 0) .active .staged
  have hprogress : s.switchInProgress = decide (s.switch.phase ≠ .idle) := by
    rw [State.switchInProgress, bne, beq_eq_decide, decide_not]
  refine (congrArg Host.Outcome.next (request_ready readRuleBlock h)).trans ?_
  rw [hq, readRuleBlock, hnamed, ← hbank, ← hprogress]
  rfl

/-- Settles O34: each report field by field, and READ_RULE by the three fields it names. -/
theorem stateIsReported : Obligations.StateIsReported := by
  refine ⟨?_, ?_⟩
  · intro p s q u c
    refine ⟨fun hq => ⟨_, congrArg Host.Outcome.next (request_ready getLinesBlock hq), ?_, fun i => ?_⟩,
      fun hq => congrArg Host.Outcome.next (request_ready getTimeBlock hq),
      fun hq => ⟨_, (congrArg Host.Outcome.next (request_ready switchStatusBlock hq)).trans ?_, getLsbD_lineSetOf _⟩,
      fun hq => ⟨_, _, congrArg Host.Outcome.next (request_ready getExceptionsBlock hq), ?_, ?_,
        ExceptionTable.lowest_eq_none_iff, fun i => ExceptionTable.lowest_eq_some⟩⟩
    · simp
    · have hreport : (s.lines.toList.map lineReport)[i.val]? = some (lineReport s.lines[i]) := by simp
      exact hreport.trans (congrArg some (lineReport_eq _))
    · rw [switchStatusBlock, SwitchPhase.name_eq]
      rfl
    · simp
    · simp
  · intro p s q x y z h hq bank answer
    refine ⟨fun hbad => ?_, fun hx => ⟨?_, ?_, ?_⟩⟩
    · refine (congrArg Host.Outcome.next (request_ready readRuleBlock h)).trans ?_
      rw [hq, readRuleBlock, readRuleOf_eq_none hbad]
      rfl
    · rintro rfl i hi
      exact exec_readRule h hq hx rfl (congrArg (Option.map _) (finOf_val hi))
    · rintro rfl g hg
      exact exec_readRule h hq hx rfl (congrArg (Option.map _) (finOf_val hg))
    · rintro rfl
      exact exec_readRule h hq hx rfl rfl

end Sys2Proof.Machine
end

section
/-!
PROOFS. The lines, held entries and line 31 under every command (R71, R72, R78, R85, R86, R92): what changes one line,
what admits held entries, what the switch and the SYNC function may do to line 31. Its proofs are checked one after
another (Elab.async off), within the memory of one.
-/
namespace Sys2Proof.Machine
set_option Elab.async false

/-! ### The two invariants -/

/-- A held entry waits only while the FIFO is full or a switch is DRAINING, line by line (R78). -/
theorem State.heldOk_iff {s : State} : s.HeldOk ↔
    ∀ j : LineNo, s.lines[j].held ≠ none → 64 ≤ s.fifo.length ∨ s.switch.phase = .draining := by
  simp only [State.HeldOk, State.anyHeld, List.any_eq_true, List.mem_finRange, true_and, State.fifoFull, State.draining,
    decide_eq_true_eq, beq_iff_eq, Option.isSome_iff_ne_none, forall_exists_index, Config.fifoCapacity]

/-- A change that keeps the lines in order, and held entries to their causes. -/
structure FrontKept (s t : State) : Prop where
  lines : s.LinesOk → t.LinesOk
  held : s.HeldOk → t.HeldOk

/-- A change that leaves the banks, the state of the switch and the SYNC function. -/
structure SameRules (s t : State) : Prop where
  rules : t.rules = s.rules
  phase : t.switch.phase = s.switch.phase
  sync : t.clock.options.syncEnable = s.clock.options.syncEnable

theorem SameRules.of_frame {s t : State} (hr : t.rules = s.rules := by simp) (hs : t.switch = s.switch := by simp)
    (ho : t.clock.options = s.clock.options := by simp) : SameRules s t :=
  ⟨hr, congrArg SwitchController.phase hs, congrArg TimeOptions.syncEnable ho⟩

/-- The lines stay in order when the ACTIVE bank and SYNC stay, and no switch brings line 31 into CAPTURE under SYNC
(R86, R92). -/
theorem State.LinesOk.of_active {s t : State} (h : s.LinesOk) (ha : t.rules.active = s.rules.active)
    (hsync : t.clock.options.syncEnable = s.clock.options.syncEnable)
    (hlines : ∀ j : LineNo, t.lines[j].Ok s.rules.active.lines[j].mode)
    (hline31 : s.clock.options.syncEnable = true → t.lines[31].phase = .off)
    (hswitch : s.clock.options.syncEnable = true → t.rules.staged.lines[31].mode = .capture →
      t.switch.phase ≠ .draining ∧ ∀ sawOn sawOff, t.switch.phase = .validating sawOn sawOff → sawOff = false) :
    t.LinesOk where
  lines j := ha ▸ hlines j
  line31 hon := ⟨ha ▸ (h.line31 (hsync ▸ hon)).1, hline31 (hsync ▸ hon)⟩
  switch hon := hswitch (hsync ▸ hon)

/-- The lines stay in order when each line does, under the same banks, switch and SYNC function. -/
theorem State.LinesOk.of_lines {s t : State} (h : s.LinesOk) (k : SameRules s t)
    (hlines : ∀ j : LineNo, t.lines[j].Ok s.rules.active.lines[j].mode)
    (hline31 : s.clock.options.syncEnable = true → t.lines[31].phase = .off) : t.LinesOk :=
  h.of_active (congrArg RuleStore.active k.rules) k.sync hlines hline31 (by rw [k.rules, k.phase]; exact h.switch)

theorem getElem_set_line (v : Vector Line 32) (i j : LineNo) (l : Line) :
    (v.set i l)[j] = if j = i then l else v[j] := by
  simp [Vector.getElem_set, Fin.ext_iff, eq_comm]

namespace FrontKept

theorem refl (s : State) : FrontKept s s := ⟨id, id⟩

theorem trans {s t u : State} (h : FrontKept s t) (h' : FrontKept t u) : FrontKept s u :=
  ⟨h'.lines ∘ h.lines, h'.held ∘ h.held⟩

theorem foldl {α : Type} {f : State → α → State} (h : ∀ s a, FrontKept s (f s a)) (l : List α) (s : State) :
    FrontKept s (l.foldl f s) :=
  List.foldlRecOn (motive := FrontKept s) _ _ (.refl s) fun t ht a _ => ht.trans (h t a)

/-- A change that leaves the lines and lets the FIFO only grow. -/
theorem of_fifo {s t : State} (k : SameRules s t) (hl : t.lines = s.lines) (hf : s.fifo.length ≤ t.fifo.length) :
    FrontKept s t where
  lines h := h.of_lines k (hl ▸ h.lines) (hl ▸ fun hon => (h.line31 hon).2)
  held h := by
    rw [State.heldOk_iff] at h ⊢
    rw [hl, k.phase]
    exact fun j hj => (h j hj).imp_left fun hfull => hfull.trans hf

/-- What leaves lines, FIFO, banks, switch and time options, by its frame. -/
theorem of_frame {s t : State} (hl : t.lines = s.lines := by simp) (hf : t.fifo = s.fifo := by simp)
    (hr : t.rules = s.rules := by simp) (hs : t.switch = s.switch := by simp)
    (ho : t.clock.options = s.clock.options := by simp) : FrontKept s t :=
  .of_fifo (.of_frame hr hs ho) hl (congrArg List.length hf).ge

/-! ### One line changed -/

/-- A change of one line: it stays in order, is held back only where an entry could not enter the FIFO, and stays OFF if
it is line 31 with SYNC on (R77, R78, R86). -/
theorem of_line {s t : State} {i : LineNo} {l : Line} (k : SameRules s t) (hl : t.lines = s.lines.set i l)
    (hf : s.fifo.length ≤ t.fifo.length) (hheld : l.held ≠ none → s.lines[i].held ≠ none ∨ ¬ s.admits = true)
    (hok : s.lines[i].Ok s.rules.active.lines[i].mode → l.Ok s.rules.active.lines[i].mode)
    (h31 : i = 31 → s.clock.options.syncEnable = true → s.lines[i].phase = .off → l.phase = .off) : FrontKept s t where
  lines h := by
    refine h.of_lines k (fun j => ?_) fun hon => ?_
    · rw [hl, getElem_set_line]
      split
      · next hj => exact hj ▸ hok (h.lines i)
      · exact h.lines j
    · have hget : t.lines[31] = if 31 = i then l else s.lines[31] := hl ▸ getElem_set_line s.lines i 31 l
      rw [hget]
      split
      · next hi => exact h31 hi.symm hon (hi ▸ (h.line31 hon).2)
      · exact (h.line31 hon).2
  held h := by
    rw [State.heldOk_iff] at h ⊢
    intro j hj
    rw [hl, getElem_set_line] at hj
    rw [k.phase]
    refine Or.imp_left (fun hfull : 64 ≤ s.fifo.length => hfull.trans hf) ?_
    split at hj
    · rcases hheld hj with hwas | hnot
      · exact h i hwas
      · rw [admits_iff] at hnot
        by_contra hfree
        obtain ⟨hroom, hphase⟩ := not_or.1 hfree
        exact hnot ⟨Nat.lt_of_not_le hroom, hphase, fun j => by_contra fun hj => hfree (h j hj)⟩
    · exact h j hj

/-- A line written anew, with its held slot as it was. -/
theorem setLine {s : State} {i : LineNo} {l : Line} (hheld : l.held = s.lines[i].held)
    (hok : s.lines[i].Ok s.rules.active.lines[i].mode → l.Ok s.rules.active.lines[i].mode)
    (h31 : i = 31 → s.clock.options.syncEnable = true → s.lines[i].phase = .off → l.phase = .off) :
    FrontKept s (s.setLine i l) :=
  .of_line .of_frame rfl le_rfl (fun h => .inl (hheld ▸ h)) hok h31

end FrontKept

/-- With room left for more than the admitted lines, no line with a held entry is left out (R79). -/
theorem mem_admissible_of_room {s : State} {l : List LineNo} (h : (s.admissible l).length < 64 - s.fifo.length)
    {i : LineNo} (hi : i ∈ l.filter fun i => s.lines[i].held.isSome) : i ∈ s.admissible l := by
  rw [State.admissible, List.length_take] at h
  rwa [State.admissible, List.take_of_length_le (by omega)]

/-! ### A line by its state (Table 4-1) -/

/-- A line in IDLE, under a mode that is not OFF, keeps its release timer stopped (R71). -/
theorem Line.Ok.of_idle {m : Mode} {l : Line} (hm : m ≠ .off) (hphase : l.phase = .idle) (hr : l.release = none) :
    l.Ok m where
  mode h := absurd h hm
  off h := nomatch hphase.symm.trans h
  held _ := .inl hphase
  release := by simp [hr, hphase]

/-- A line in CONFIRMING holds nothing (R67). -/
theorem Line.Ok.of_confirming {m : Mode} {l : Line} (hm : m ≠ .off) {n : Nat} {t : Stamp} {u : Uptime}
    (hphase : l.phase = .confirming n t u) (hr : l.release = none) (hh : l.held = none) : l.Ok m where
  mode h := absurd h hm
  off h := nomatch hphase.symm.trans h
  held h := by simp [hh] at h
  release := by simp [hr, hphase]

/-- A line in LOCKED_OUT runs its release timer exactly with nothing held (R71, R72). -/
theorem Line.Ok.of_lockedOut {m : Mode} {l : Line} (hm : m ≠ .off) {x : Level} (hphase : l.phase = .lockedOut x)
    (hr : l.release.isSome = true ↔ l.held = none) : l.Ok m where
  mode h := absurd h hm
  off h := nomatch hphase.symm.trans h
  held _ := .inr ⟨x, hphase⟩
  release := hr.trans ⟨fun h => ⟨⟨x, hphase⟩, h⟩, And.right⟩

/-- Outside LOCKED_OUT the release timer is stopped (R71). -/
theorem Line.Ok.release_eq_none {m : Mode} {l : Line} (h : l.Ok m) (hphase : ∀ x, l.phase ≠ .lockedOut x) :
    l.release = none := by
  by_contra hr
  obtain ⟨⟨x, hx⟩, -⟩ := h.release.1 (Option.isSome_iff_ne_none.2 hr)
  exact hphase x hx

/-- A line that is OFF or CONFIRMING holds nothing (R67, R85). -/
theorem Line.Ok.held_eq_none {m : Mode} {l : Line} (h : l.Ok m) (hidle : l.phase ≠ .idle)
    (hphase : ∀ x, l.phase ≠ .lockedOut x) : l.held = none := by
  by_contra hh
  rcases h.held (Option.isSome_iff_ne_none.2 hh) with hi | ⟨x, hx⟩
  · exact hidle hi
  · exact hphase x hx

/-- A line whose held entry is admitted: in LOCKED_OUT its release timer then runs (R72, R79). -/
theorem Line.Ok.admitted {m : Mode} {l : Line} (h : l.Ok m) (hheld : l.held.isSome = true) (now : Uptime)
    (releaseMs : Nat) : (l.admitted now releaseMs).Ok m := by
  have hrelease := Line.admitted_eq l now releaseMs
  rcases h.held hheld with hphase | ⟨x, hphase⟩
  · have hm : m ≠ .off := fun hm => nomatch hphase.symm.trans (h.mode hm)
    refine .of_idle hm hphase ?_
    rw [hrelease, hphase]
    exact h.release_eq_none fun x => ne_of_eq_of_ne hphase nofun
  · have hm : m ≠ .off := fun hm => nomatch hphase.symm.trans (h.mode hm)
    refine .of_lockedOut hm hphase (iff_of_true ?_ rfl)
    rw [hrelease, hphase]
    rfl

/-- A line forgotten at a change of its mode (R84, R85). -/
theorem Line.Ok.forgotten (m : Mode) (l : Line) : l.forgotten.Ok m where
  mode _ := rfl
  off _ := ⟨rfl, rfl, rfl⟩
  held h := absurd h Bool.false_ne_true
  release := iff_of_false Bool.false_ne_true fun h => nomatch h.1

/-! ### Entries offered (R77) -/

/-- A line whose entry has been offered, entering the FIFO where it is admitted and else held (R77). -/
def Line.offered (admits : Bool) (e : FrontEntry) (l : Line) : Line :=
  { l with held := if admits then none else some e.markHeld }

/-- After the offer of a line's entry, whatever else about the line had changed before it (R77). -/
theorem lines_offerEntry {s u : State} {i : LineNo} {l : Line} (hl : u.lines = s.lines.set i l) (hf : u.fifo = s.fifo)
    (hs : u.switch = s.switch) (hheld : l.held = s.lines[i].held) (e : FrontEntry) :
    (offerEntry i e u).lines = s.lines.set i (l.offered s.admits e) := by
  have hget (j : LineNo) : u.lines[j] = if j = i then l else s.lines[j] := hl ▸ getElem_set_line s.lines i j l
  have hadmits : u.admits = s.admits := by
    rw [Bool.eq_iff_iff, admits_iff, admits_iff, hf, hs]
    refine and_congr_right' (and_congr_right' (forall_congr' fun j => ?_))
    rw [hget]
    split
    · next hj => rw [hj, hheld]
    · rfl
  by_cases h : u.admits = true
  · have hline : l.offered s.admits e = l := by
      rw [Line.offered, ← hadmits, if_pos h, ← (admits_iff.1 (hadmits ▸ h)).2.2 i, ← hheld]
    rw [offerEntry_of_admits h, hline]
    exact hl
  · rw [offerEntry_of_not_admits h, Line.offered, ← hadmits, if_neg h, hget, if_pos rfl]
    simp [hl]

/-- An offered entry only adds to the FIFO (R77). -/
theorem length_fifo_offerEntry {s u : State} (hf : u.fifo = s.fifo) (i : LineNo) (e : FrontEntry) :
    s.fifo.length ≤ (offerEntry i e u).fifo.length := by
  by_cases h : u.admits = true
  · simp [offerEntry_of_admits h, hf]
  · simp [offerEntry_of_not_admits h, hf]

theorem Line.offered_held {admits : Bool} {e : FrontEntry} {l : Line} (h : (l.offered admits e).held ≠ none) :
    ¬ admits = true :=
  fun ha => h (if_pos ha)

/-! ### Confirmed changes and chatter (R69 to R73) -/

namespace FrontKept

/-- A line that has entered LOCKED_OUT with its entry offered: the release timer starts if nothing is held (R71). -/
theorem locked {s t : State} {i : LineNo} {l : Line} {x : Level} (k : SameRules s t) (hl : t.lines = s.lines.set i l)
    (hf : s.fifo.length ≤ t.fifo.length) (hheld : l.held ≠ none → ¬ s.admits = true)
    (hphase : l.phase = .lockedOut x) (hr : l.release = none) (hm : s.rules.active.lines[i].mode ≠ .off)
    (h31 : i = 31 → s.clock.options.syncEnable = false) (now : Uptime) (rule : LineRule) :
    FrontKept s (if t.lines[i].held.isSome then t else t.setLine i (t.lines[i].releasing now rule)) := by
  have hline : t.lines[i] = l := by rw [hl, getElem_set_line, if_pos rfl]
  rw [hline]
  split
  · next hh =>
    refine .of_line k hl hf (fun h => .inr (hheld h)) (fun _ => .of_lockedOut hm hphase ?_)
      fun hi hon => nomatch (h31 hi).symm.trans hon
    rw [hr]
    exact iff_of_false Bool.false_ne_true (Option.isSome_iff_ne_none.1 hh)
  · next hh =>
    refine .of_line (l := l.releasing now rule) ?_ ?_ hf (fun h => .inr (hheld h))
      (fun _ => .of_lockedOut hm hphase (iff_of_true rfl (Option.not_isSome_iff_eq_none.1 hh)))
      fun hi hon => nomatch (h31 hi).symm.trans hon
    · exact ⟨k.rules, k.phase, k.sync⟩
    · rw [State.setLine_lines, hl, Vector.set_set]

/-- A line that has come to IDLE offers its entry (R69, R73). -/
theorem offered {s : State} {i : LineNo} {l : Line} (hheld : l.held = s.lines[i].held) (hphase : l.phase = .idle)
    (hok : s.lines[i].Ok s.rules.active.lines[i].mode → s.rules.active.lines[i].mode ≠ .off ∧ l.release = none)
    (h31 : i = 31 → s.clock.options.syncEnable = true → s.lines[i].phase ≠ .off) (e : FrontEntry) :
    FrontKept s (offerEntry i e (s.setLine i l)) := by
  have hlines : (offerEntry i e (s.setLine i l)).lines = s.lines.set i (l.offered s.admits e) :=
    lines_offerEntry (u := s.setLine i l) rfl rfl rfl hheld e
  have hfifo : s.fifo.length ≤ (offerEntry i e (s.setLine i l)).fifo.length :=
    length_fifo_offerEntry (u := s.setLine i l) rfl i e
  exact .of_line .of_frame hlines hfifo (fun h => .inr (Line.offered_held h))
    (fun h => .of_idle (hok h).1 hphase (hok h).2) fun hi hon hoff => absurd hoff (h31 hi hon)

/-- A confirmed change of a captured line that is not LOCKED_OUT (R69, R71). -/
theorem confirmChange {s : State} {i : LineNo} (hcap : s.captures i = true)
    (hphase : ∀ x, s.lines[i].phase ≠ .lockedOut x) (level : Level) (stamp : Stamp) (uptime : Uptime) :
    FrontKept s (confirmChange i level stamp uptime s) := by
  obtain ⟨hmode, h31⟩ := captures_iff.1 hcap
  have hm : s.rules.active.lines[i].mode ≠ .off := ne_of_eq_of_ne hmode nofun
  obtain ⟨c, hc⟩ : ∃ c, s.lines[i].confirmed s.clock.uptime s.rules.active.lines[i] level = c := ⟨_, rfl⟩
  have hheld : c.held = s.lines[i].held := hc ▸ rfl
  by_cases h : locksOut s.rules.active.lines[i] (bumpChatter s.lines[i].chatterCount) = true
  · rw [confirmChange_of_locks h level stamp uptime rfl, hc]
    exact .locked .of_frame (lines_offerEntry (l := c.lockedAt level) (by simp) (by simp) (by simp) hheld _)
      (length_fifo_offerEntry (by simp) i _) Line.offered_held rfl rfl hm h31 _ _
  · rw [confirmChange_of_not_locks (Bool.eq_false_iff.2 h), hc]
    exact .offered hheld (hc ▸ rfl) (fun hok => ⟨hm, hc ▸ hok.release_eq_none hphase⟩)
      (fun hi hon => nomatch (h31 hi).symm.trans hon) _

/-- RELEASE_TIMER_EXPIRY releases its line (R73). -/
theorem releaseLine {s : State} {i : LineNo} {x : Level} (hphase : s.lines[i].phase = .lockedOut x) :
    FrontKept s (releaseLine i x s) := by
  have hnot : s.lines[i].phase ≠ .off := ne_of_eq_of_ne hphase nofun
  unfold Machine.releaseLine
  refine .offered ?_ ?_ (fun hok => ⟨fun hm => hnot (hok.mode hm), ?_⟩) (fun _ _ => hnot) _ <;> rfl

/-! ### The sample instant (R65 to R68, R72, R84) -/

/-- A captured line is primed (R84). -/
theorem primeLine {s : State} {i : LineNo} (hcap : s.captures i = true) (level : Level) :
    FrontKept s (primeLine i level s) := by
  obtain ⟨hmode, h31⟩ := captures_iff.1 hcap
  exact .of_line (.of_frame rfl rfl rfl) rfl le_rfl .inl (fun _ => .of_idle (ne_of_eq_of_ne hmode nofun) rfl rfl)
    fun hi hon => nomatch (h31 hi).symm.trans hon

/-- A captured line with nothing held and its release timer stopped goes on confirming (R67, R68). -/
theorem setConfirming {s : State} {i : LineNo} (hcap : s.captures i = true)
    (hphase : ∀ x, s.lines[i].phase ≠ .lockedOut x)
    (hheld : s.lines[i].Ok s.rules.active.lines[i].mode → s.lines[i].held = none)
    (n : Nat) (stamp : Stamp) (uptime : Uptime) :
    FrontKept s (s.setLine i { s.lines[i] with phase := .confirming n stamp uptime }) := by
  obtain ⟨hmode, h31⟩ := captures_iff.1 hcap
  exact .setLine rfl
    (fun hok => .of_confirming (ne_of_eq_of_ne hmode nofun) rfl (hok.release_eq_none hphase) (hheld hok))
    fun hi hon => nomatch (h31 hi).symm.trans hon

theorem startConfirmation {s : State} {i : LineNo} (hcap : s.captures i = true) (hphase : s.lines[i].phase = .idle)
    (hheld : s.lines[i].held = none) (level : Level) : FrontKept s (startConfirmation i level s) := by
  have hnot (x : Level) : s.lines[i].phase ≠ .lockedOut x := ne_of_eq_of_ne hphase nofun
  unfold Machine.startConfirmation
  split
  · exact .confirmChange hcap hnot level _ _
  · exact .setConfirming hcap hnot (fun _ => hheld) _ _ _

theorem takeConfirming {s : State} {i : LineNo} {n : Nat} {stamp : Stamp} {uptime : Uptime}
    (hcap : s.captures i = true) (hphase : s.lines[i].phase = .confirming n stamp uptime) (level : Level) :
    FrontKept s (takeConfirming i level n stamp uptime s) := by
  obtain ⟨hmode, h31⟩ := captures_iff.1 hcap
  have hnot (x : Level) : s.lines[i].phase ≠ .lockedOut x := ne_of_eq_of_ne hphase nofun
  unfold Machine.takeConfirming
  split
  · exact .setLine rfl (fun hok => .of_idle (ne_of_eq_of_ne hmode nofun) rfl (hok.release_eq_none hnot))
      fun hi hon => nomatch (h31 hi).symm.trans hon
  · split
    · exact .confirmChange hcap hnot level stamp uptime
    · exact .setConfirming hcap hnot (fun hok => hok.held_eq_none (ne_of_eq_of_ne hphase nofun) hnot) _ _ _

/-- A LOCKED_OUT line restarts a running release timer alone (R72). -/
theorem takeLockedOut {s : State} {i : LineNo} {x : Level} (hphase : s.lines[i].phase = .lockedOut x) (changes : Bool) :
    FrontKept s (takeLockedOut i changes s) := by
  unfold Machine.takeLockedOut
  split
  · next hruns =>
    have hruns : s.lines[i].release.isSome = true := (Bool.and_eq_true_iff.1 hruns).2
    refine .setLine rfl (fun hok => .of_lockedOut (fun hm => ?_) hphase (iff_of_true rfl (hok.release.1 hruns).2))
      fun _ _ hoff => nomatch hphase.symm.trans hoff
    exact nomatch hphase.symm.trans (hok.mode hm)
  · exact .refl s

/-- A captured line takes its sample (R65). -/
theorem takeSample {s : State} {i : LineNo} (hcap : s.captures i = true) (level : Level) (changes : Bool) :
    FrontKept s (takeSample i level changes s) := by
  cases hphase : s.lines[i].phase with
  | off =>
    rw [takeSample_of_off hphase]
    exact .primeLine hcap level
  | idle =>
    rw [takeSample_of_idle hphase]
    split
    · exact .refl s
    · next hstarts =>
      exact .startConfirmation hcap hphase (Option.not_isSome_iff_eq_none.1 (not_or.1 hstarts).2) level
  | confirming n stamp uptime =>
    rw [takeSample_of_confirming hphase]
    exact .takeConfirming hcap hphase level
  | lockedOut x =>
    rw [takeSample_of_lockedOut hphase]
    exact .takeLockedOut hphase changes

theorem sampleLine (pins : BitVec 32) (s : State) (i : LineNo) : FrontKept s (sampleLine pins s i) := by
  have hsampled : FrontKept s (s.setLine i (s.lines[i].sampled pins i s.rules.active.lines[i])) :=
    .setLine rfl (fun hok => ⟨hok.mode, hok.off, hok.held, hok.release⟩) fun _ _ hoff => hoff
  by_cases hcap : s.captures i = true
  · rw [sampleLine_of_captures hcap pins rfl]
    exact hsampled.trans (takeSample (s := s.setLine i _) hcap _ _)
  · rw [sampleLine_of_not_captures hcap]
    exact hsampled

theorem sampleAll (pins : BitVec 32) (s : State) : FrontKept s (sampleAll pins s) := by
  have hnext : FrontKept s { s with nextSample := nextInstant s.clock.uptime s.nextSample s.rules.active.period } :=
    .of_frame rfl rfl rfl rfl rfl
  exact hnext.trans (.foldl (.sampleLine pins) _ _)

/-- CHATTER_WINDOW_EXPIRY (R70). -/
theorem endWindow (s : State) (i : LineNo) :
    FrontKept s (s.setLine i { s.lines[i] with chatterCount := 0, window := none }) :=
  .setLine rfl (fun hok => ⟨hok.mode, fun hoff => ⟨(hok.off hoff).1, rfl, rfl⟩, hok.held, hok.release⟩)
    fun _ _ hoff => hoff

/-! ### Held entries admitted (R79) -/

/-- The arbiter admits one line's held entry (R79). -/
theorem admitLine (s : State) (i : LineNo) : FrontKept s (admitLine s i) := by
  cases hh : s.lines[i].held with
  | none =>
    rw [admitLine_of_none hh]
    exact .refl s
  | some e =>
    have hheld : s.lines[i].held.isSome = true := by rw [hh]; rfl
    unfold Machine.admitLine
    rw [hh]
    dsimp only
    split
    · exact .refl s
    · exact .of_line (.of_frame rfl rfl rfl) rfl (by simp) (fun h => absurd rfl h)
        (fun hok => hok.admitted hheld _ _) fun _ _ hoff => hoff

theorem admitHeld (s : State) : FrontKept s (admitHeld s) := by
  unfold Machine.admitHeld
  split
  · exact .refl s
  · exact .foldl .admitLine _ s

end FrontKept

/-- Where the arbiter has admitted what it can, a held entry waits only for a FIFO that is full (R78, R79). -/
theorem heldOk_admitHeld (s : State) : (admitHeld s).HeldOk := by
  by_cases hd : s.switch.phase = .draining
  · rw [admitHeld_of_draining hd]
    exact State.heldOk_iff.2 fun _ _ => .inr hd
  · rw [admitHeld_of_not_draining hd, State.heldOk_iff]
    intro j hj
    refine .inl (Nat.le_of_not_lt fun hroom => ?_)
    have hnodup : (s.admissible (List.finRange 32)).Nodup := nodup_admissible (List.nodup_finRange 32)
    have hcount : ((s.admissible (List.finRange 32)).filterMap fun i => s.lines[i].held.map FifoEntry.front).length =
        (s.admissible (List.finRange 32)).length := by
      rw [List.length_filterMap_eq_countP, List.countP_eq_length]
      exact fun i hi => (Option.isSome_map ..).trans (mem_of_mem_admissible hi).2
    have hshort : (s.admissible (List.finRange 32)).length < 64 - s.fifo.length := by
      rw [List.length_append, hcount] at hroom
      omega
    rw [getElem_admittedLines_of_nodup _ _ hnodup] at hj
    split at hj
    · next hin =>
      rw [Line.admittedIfHeld, if_neg (Option.isSome_iff_ne_none.1 (mem_of_mem_admissible hin).2)] at hj
      exact hj rfl
    · next hout =>
      refine hout (mem_admissible_of_room hshort ?_)
      exact List.mem_filter.2 ⟨List.mem_finRange j, Option.isSome_iff_ne_none.2 hj⟩

/-! ### The time options (R92, R93) -/

theorem options_pulse (c : TimeBase) : c.pulse.options = c.options := by
  simp only [TimeBase.pulse, TimeBase.freePulse, TimeBase.lockedPulse, TimeBase.holdoverPulse, TimeBase.lock,
    TimeBase.correct]
  repeat' split
  all_goals rfl

theorem options_expireHoldover (c : TimeBase) : c.expireHoldover.options = c.options := by
  rcases expireHoldover_cases c with h | ⟨-, -, h⟩ <;> rw [h]

theorem options_limitHoldover (was : Nat) (c : TimeBase) : (c.limitHoldover was).options = c.options := by
  unfold TimeBase.limitHoldover
  split
  · rfl
  · exact options_expireHoldover _

/-- SET_TIME_OPTIONS writes all five options (R92). -/
theorem options_setOptions (o : TimeOptions) (c : TimeBase) : (c.setOptions o).options = o := by
  have hswitch (was now : Bool) (x : TimeBase) : (x.switchSync was now).options = x.options := by
    cases was <;> cases now <;> rfl
  rw [TimeBase.setOptions, hswitch, options_limitHoldover]

namespace FrontKept

/-! ### What the classifier takes and builds (R113 to R118) -/

/-- CLASSIFIER_TAKE_ENTRY: the place an entry leaves goes to a held one (R78, R79, log 17). -/
theorem classifierTakeEntry {s t : State} (ht : execClassifierTakeEntry s = .next t) : FrontKept s t := by
  obtain rfl := Host.Outcome.next.inj ht
  split
  · exact .of_frame
  · exact .refl s
  · exact .refl s
  · next e rest _ _ =>
    have hclassify : FrontKept (Machine.admitHeld { s with fifo := rest })
        (classify e (Machine.admitHeld { s with fifo := rest })) := .of_frame
    have htaken (h : s.LinesOk) : State.LinesOk { s with fifo := rest } := ⟨h.lines, h.line31, h.switch⟩
    exact ⟨fun h => hclassify.lines ((admitHeld _).lines (htaken h)), fun _ => hclassify.held (heldOk_admitHeld _)⟩

theorem deferredSnapshotBuild {s t : State} (ht : execDeferredSnapshotBuild s = .next t) : FrontKept s t := by
  obtain rfl := Host.Outcome.next.inj ht
  split
  · exact .refl s
  · exact .refl s
  · split
    · exact .of_frame
    · exact .refl s

/-! ### The time base (R92 to R100) -/

/-- A change of the time base that leaves its options, and the report of its quality. -/
theorem reportQuality {s : State} {c : TimeBase} (hc : c.options = s.clock.options) (old : Quality) :
    FrontKept s (reportQuality old { s with clock := c }) :=
  .of_frame (ho := by simp [hc])

theorem takePulse (s : State) : FrontKept s (takePulse s) :=
  .of_frame (ho := by simp [Machine.takePulse, options_pulse])

theorem setTimeTo (t : TimeOfDay) (s : State) : FrontKept s (setTimeTo t s) :=
  .of_frame (ho := by simp [Machine.setTimeTo, TimeBase.setTime])

end FrontKept

/-! ### The switch and line 31 (R86, R92, R124) -/

/-- With SYNC on, validation lets no bank pass that has line 31 in CAPTURE (R92, Table 7-3). -/
theorem mode_of_validate {b : Bank} (h : validate b true = none) : b.lines[31].mode ≠ .capture := by
  intro hm
  have hline : lineFault b true 31 = none := by
    unfold validate at h
    split at h
    · exact nomatch h
    · next hlines => simpa using List.findSome?_eq_none_iff.1 hlines 31 (List.mem_finRange 31)
  unfold lineFault at hline
  dsimp only at hline
  split at hline
  · exact nomatch hline
  · rw [if_pos ⟨rfl, hm, rfl⟩] at hline
    exact nomatch hline

/-- A validation that has seen SYNC on alone judges line 31 by SYNC on (R124, log 12). -/
theorem syncSeen_of_on (syncRead sawOn : Bool) : syncSeen syncRead sawOn false true = true := by
  cases syncRead <;> cases sawOn <;> rfl

theorem noteSync_eq_draining_iff {on : Bool} {x : SwitchPhase} : x.noteSync on = .draining ↔ x = .draining := by
  cases x <;> simp [SwitchPhase.noteSync]

/-- A note of SYNC on leaves what a validation knows of SYNC off (R124, log 12). -/
theorem noteSync_on_eq_validating {x : SwitchPhase} {sawOn sawOff : Bool}
    (h : x.noteSync true = .validating sawOn sawOff) : ∃ was, x = .validating was sawOff := by
  cases x with
  | validating was wasOff =>
    simp only [SwitchPhase.noteSync, Bool.not_true, Bool.or_false, SwitchPhase.validating.injEq] at h
    exact ⟨was, by rw [h.2]⟩
  | idle => exact nomatch h
  | draining => exact nomatch h

theorem Mode.eq_off_iff {m : Mode} : m = .off ↔ m ≠ .capture := by
  cases m <;> simp

/-- The lines after a new SYNC enable value: SYNC is turned on only with line 31 in CAPTURE in neither bank (R92). -/
theorem State.LinesOk.of_sync {s t : State} (h : s.LinesOk) (hl : t.lines = s.lines) (hr : t.rules = s.rules)
    {on : Bool}
    (hsync : t.clock.options.syncEnable = on) (hphase : t.switch.phase = s.switch.phase.noteSync on)
    (hturned : on = true → s.clock.options.syncEnable = false → s.rules.line31Captures = false) : t.LinesOk := by
  cases hwas : s.clock.options.syncEnable with
  | false =>
    have hfree (hon : on = true) : s.rules.active.lines[31].mode = .off ∧ s.rules.staged.lines[31].mode ≠ .capture := by
      simpa [RuleStore.line31Captures, Mode.eq_off_iff] using hturned hon hwas
    refine ⟨by rw [hl, hr]; exact h.lines, fun hon => ?_, fun hon hcap => ?_⟩
    · rw [hl, hr]
      exact ⟨(hfree (hsync ▸ hon)).1, (h.lines 31).mode (hfree (hsync ▸ hon)).1⟩
    · exact absurd (hr ▸ hcap) (hfree (hsync ▸ hon)).2
  | true =>
    refine ⟨by rw [hl, hr]; exact h.lines, fun _ => by rw [hl, hr]; exact h.line31 hwas, fun hon hcap => ?_⟩
    obtain ⟨hnot, hseen⟩ := h.switch hwas (hr ▸ hcap)
    rw [hphase, show on = true from hsync.symm.trans hon]
    refine ⟨mt noteSync_eq_draining_iff.1 hnot, fun sawOn sawOff hval => ?_⟩
    obtain ⟨was, hval⟩ := noteSync_on_eq_validating hval
    exact hseen was sawOff hval

/-- The lines after a DRAINING switch has brought the STAGED bank into force: those that change their mode are OFF, and
line 31 stays OFF while SYNC is on (R82, R84 to R86, R92). -/
theorem State.LinesOk.switched {s t : State} (h : s.LinesOk) (hd : s.switch.phase = .draining)
    (hl : t.lines = switchedLines s.rules.active s.rules.staged s.lines) (ha : t.rules.active = s.rules.staged)
    (hsync : t.clock.options.syncEnable = s.clock.options.syncEnable)
    (hphase : t.switch.phase = .idle) : t.LinesOk where
  lines j := by
    rw [hl, ha, getElem_switchedLines]
    split
    · next hm => exact hm ▸ h.lines j
    · exact .forgotten _ _
  line31 hon := by
    rw [hsync] at hon
    obtain ⟨hactive, hoff⟩ := h.line31 hon
    have hstaged : s.rules.staged.lines[31].mode = .off := Mode.eq_off_iff.2 fun hcap => (h.switch hon hcap).1 hd
    have hline : (switchedLines s.rules.active s.rules.staged s.lines)[31] = s.lines[31] :=
      (getElem_switchedLines _ _ _ 31).trans (if_pos (hactive.trans hstaged.symm))
    rw [hl, ha, hline]
    exact ⟨hstaged, hoff⟩
  switch _ _ := by
    rw [hphase]
    exact ⟨nofun, nofun⟩

namespace FrontKept

/-- A change of the switch or of the STAGED bank: a DRAINING switch stays so, and none brings line 31 into CAPTURE under
SYNC (R92, R122). -/
theorem of_switch {s t : State} (hl : t.lines = s.lines) (hf : t.fifo = s.fifo)
    (ha : t.rules.active = s.rules.active) (ho : t.clock.options = s.clock.options)
    (hdraining : s.switch.phase = .draining → t.switch.phase = .draining)
    (hswitch : s.LinesOk → s.clock.options.syncEnable = true → t.rules.staged.lines[31].mode = .capture →
      t.switch.phase ≠ .draining ∧ ∀ sawOn sawOff, t.switch.phase = .validating sawOn sawOff → sawOff = false) :
    FrontKept s t where
  lines h := h.of_active ha (congrArg TimeOptions.syncEnable ho) (hl ▸ h.lines) (hl ▸ fun hon => (h.line31 hon).2)
    (hswitch h)
  held h := by
    rw [State.heldOk_iff] at h ⊢
    rw [hl, hf]
    exact fun j hj => (h j hj).imp_right hdraining

/-- A switch that is not DRAINING ends (R126, R133). -/
theorem endSwitch {s : State} (h : s.switch.phase ≠ .draining) (o : SwitchOutcome) : FrontKept s (endSwitch o s) :=
  .of_switch rfl rfl rfl rfl (fun hd => absurd hd h) fun _ _ _ => ⟨nofun, nofun⟩

theorem raise (k : ExceptionKind) (x : ExceptionSubject) (s : State) : FrontKept s (raise k x s) := .of_frame

theorem offerSwitchDone (s : State) : FrontKept s (offerSwitchDone s) := .of_frame

/-- VALIDATION_COMPLETION (R124, R126, R127). -/
theorem validationCompletion {syncRead : Bool} {s t : State} (ht : execValidationCompletion syncRead s = .next t) :
    FrontKept s t := by
  obtain rfl := Host.Outcome.next.inj ht
  split
  · next sawOn sawOff hphase =>
    split
    · exact ((FrontKept.endSwitch (ne_of_eq_of_ne hphase nofun) _).trans (.raise _ _ _)).trans (.offerSwitchDone _)
    · next hpass =>
      refine .of_switch rfl rfl rfl rfl (fun _ => rfl) fun hok hon hcap => absurd hcap ?_
      have hoff : sawOff = false := (hok.switch hon hcap).2 _ _ hphase
      rw [hon, hoff, syncSeen_of_on] at hpass
      exact mode_of_validate hpass
  all_goals exact .refl s

/-- The switch instant: lines that change their mode are OFF, and the STAGED bank's line 31 is (R84 to R86, R92). -/
theorem switchInstant {s : State} (hd : s.switch.phase = .draining) : FrontKept s (takeSwitchInstant s) := by
  refine ⟨fun h => (admitHeld _).lines ((offerSwitchDone _).lines ?_), fun _ => heldOk_admitHeld _⟩
  obtain ⟨lockouts, awaiting, hrules, -⟩ := installRules_eq s
  exact h.switched hd (by simp [hrules]) (by simp [hrules]) (by simp) rfl

/-! ### The requests that take part (R80, R92, R107 to R109, R123, R133) -/

theorem withClaim {p : Port} {s : State} {a : Answer} (h : FrontKept s a.1) : FrontKept s (withClaim p s a).1 := by
  unfold Machine.withClaim
  split
  · exact h
  · exact .refl s

theorem takeSnapshotBlock (p : Port) (bs : List Byte) (s : State) : FrontKept s (takeSnapshotBlock p bs s).1 := by
  unfold Machine.takeSnapshotBlock
  split
  · exact .of_fifo (.of_frame rfl rfl rfl) rfl (by simp)
  · exact .refl s

/-- The STAGED bank is written with no switch in progress (R107). -/
theorem editStaged (edit : Bank → Bank) (s : State) : FrontKept s (editStaged edit s).1 := by
  unfold Machine.editStaged
  split
  · exact .refl s
  · next hidle =>
    have hidle : s.switch.phase = .idle := by simpa [State.switchInProgress] using hidle
    exact .of_switch rfl rfl rfl rfl id fun _ _ _ =>
      ⟨ne_of_eq_of_ne hidle nofun, fun _ _ h => nomatch hidle.symm.trans h⟩

/-- SWITCH_RULES: a validation under SYNC has not seen it off (R123, R124). -/
theorem switchRulesBlock (p : Port) (bs : List Byte) (s : State) : FrontKept s (switchRulesBlock p bs s).1 := by
  refine .withClaim ?_
  split
  · exact .refl s
  · next hidle =>
    have hidle : s.switch.phase = .idle := by simpa [State.switchInProgress] using hidle
    refine .of_switch rfl rfl rfl rfl (fun hd => nomatch hidle.symm.trans hd) fun _ hon _ => ⟨nofun, fun _ _ h => ?_⟩
    rw [← (SwitchPhase.validating.inj h).2, hon]
    rfl

theorem abortSwitchBlock (p : Port) (bs : List Byte) (s : State) : FrontKept s (abortSwitchBlock p bs s).1 := by
  refine .withClaim ?_
  split
  · next hphase => exact (FrontKept.endSwitch (ne_of_eq_of_ne hphase nofun) _).trans (.offerSwitchDone _)
  all_goals exact .refl s

/-- SET_TIME_OPTIONS turns SYNC on only with line 31 in CAPTURE in neither bank (R92). -/
theorem writeOptions {o : TimeOptions} {s : State}
    (h : o.syncEnable = true → s.clock.options.syncEnable = false → s.rules.line31Captures = false) :
    FrontKept s (writeOptions o s) := by
  have hsync : (Machine.writeOptions o s).clock.options.syncEnable = o.syncEnable := by
    simp [Machine.writeOptions, options_setOptions]
  have hphase : (Machine.writeOptions o s).switch.phase = s.switch.phase.noteSync o.syncEnable := by
    simp [Machine.writeOptions]
  refine ⟨fun hok => hok.of_sync (by simp) (by simp) hsync hphase h, fun hok => ?_⟩
  rw [State.heldOk_iff] at hok ⊢
  rw [hphase, noteSync_eq_draining_iff]
  simpa using hok

theorem setTimeOptionsBlock (p : Port) (bs : List Byte) (s : State) : FrontKept s (setTimeOptionsBlock p bs s).1 := by
  refine .withClaim ?_
  split
  · exact .refl s
  · split
    · exact .refl s
    · next hno =>
      refine .writeOptions fun hon hwas => ?_
      simpa [hon, hwas] using hno

end FrontKept

end Sys2Proof.Machine
end

section
/-!
PROOFS. O28: the blocks of the other requests leave the front end, a reset takes it to its reset values, and so every
command, and every step, keeps the lines, the held entries and line 31 (R71, R72, R78, R85, R86, R92).
-/
namespace Sys2Proof.Machine
set_option Elab.async false

namespace FrontKept

/-! ### Requests that leave the front end -/

theorem openBlock (p : Port) (bs : List Byte) (s : State) : FrontKept s (openBlock p bs s).1 := by
  unfold Machine.openBlock
  split
  · exact .refl s
  · split
    · exact .refl s
    · exact .of_frame

theorem claimBlock (p : Port) (bs : List Byte) (s : State) : FrontKept s (claimBlock p bs s).1 := by
  unfold Machine.claimBlock
  split
  · exact .of_frame
  · split <;> exact .refl s

theorem releaseBlock (p : Port) (bs : List Byte) (s : State) : FrontKept s (releaseBlock p bs s).1 := by
  unfold Machine.releaseBlock
  split
  · exact .of_frame
  · exact .refl s

theorem restartBlock (p : Port) (bs : List Byte) (s : State) : FrontKept s (restartBlock p bs s).1 := by
  refine .withClaim ?_
  split
  · exact .refl s
  · exact .of_frame

theorem readRecordsBlock (bs : List Byte) (s : State) : FrontKept s (readRecordsBlock bs s).1 := by
  unfold Machine.readRecordsBlock
  repeat' split
  all_goals exact .refl s

theorem setJournalModeBlock (p : Port) (bs : List Byte) (s : State) : FrontKept s (setJournalModeBlock p bs s).1 := by
  refine .withClaim ?_
  split
  · exact .refl s
  · unfold setMode
    split
    · exact .refl s
    · exact .refl s
    · exact .of_frame
    · split
      · exact .of_frame
      · exact .refl s

theorem subscribeBlock (p : Port) (bs : List Byte) (s : State) : FrontKept s (subscribeBlock p bs s).1 := by
  unfold Machine.subscribeBlock
  split
  · exact .refl s
  · split
    · exact .refl s
    · exact .of_frame

theorem resumeBlock (p : Port) (bs : List Byte) (s : State) : FrontKept s (resumeBlock p bs s).1 := by
  unfold Machine.resumeBlock
  dsimp only
  split
  · exact .refl s
  · exact .of_frame

theorem ackReader (p : Port) (r : Subscription) (n : Seq) (s : State) : FrontKept s (ackReader p r n s).1 := by
  unfold Machine.ackReader
  split
  · exact .refl s
  · split
    · exact .refl s
    · split
      · exact .refl s
      · exact .of_frame

theorem ackBlock (p : Port) (bs : List Byte) (s : State) : FrontKept s (ackBlock p bs s).1 := by
  unfold Machine.ackBlock
  split
  · exact .refl s
  · split
    · exact .refl s
    · exact .ackReader ..
    · exact .ackReader ..

theorem dropReaderBlock (p : Port) (bs : List Byte) (s : State) : FrontKept s (dropReaderBlock p bs s).1 := by
  refine .withClaim ?_
  split
  · exact .refl s
  · exact .of_frame

theorem listIncidentsBlock (bs : List Byte) (s : State) : FrontKept s (listIncidentsBlock bs s).1 := by
  unfold Machine.listIncidentsBlock
  split <;> exact .refl s

theorem closeIncidentBlock (p : Port) (bs : List Byte) (s : State) : FrontKept s (closeIncidentBlock p bs s).1 := by
  refine .withClaim ?_
  split
  · exact .refl s
  · split
    · exact .refl s
    · exact .of_frame

theorem setTimeBlock (p : Port) (bs : List Byte) (s : State) : FrontKept s (setTimeBlock p bs s).1 := by
  refine .withClaim ?_
  split
  · exact .refl s
  · exact .setTimeTo _ s

theorem readRuleBlock (bs : List Byte) (s : State) : FrontKept s (readRuleBlock bs s).1 := by
  unfold Machine.readRuleBlock
  split <;> exact .refl s

theorem writeLineRuleBlock (p : Port) (bs : List Byte) (s : State) : FrontKept s (writeLineRuleBlock p bs s).1 := by
  refine .withClaim ?_
  split
  · exact .refl s
  · exact .editStaged _ s

theorem writeGroupRuleBlock (p : Port) (bs : List Byte) (s : State) : FrontKept s (writeGroupRuleBlock p bs s).1 := by
  refine .withClaim ?_
  split
  · exact .refl s
  · exact .editStaged _ s

theorem writeGlobalRuleBlock (p : Port) (bs : List Byte) (s : State) :
    FrontKept s (writeGlobalRuleBlock p bs s).1 := by
  refine .withClaim ?_
  split
  · exact .refl s
  · exact .editStaged _ s

theorem clearAlertBlock (bs : List Byte) (s : State) : FrontKept s (clearAlertBlock bs s).1 := by
  unfold Machine.clearAlertBlock
  split
  · exact .refl s
  · split
    · exact .of_frame
    · exact .refl s

theorem applyAlertFrames (p : Port) (was now : Bool) (s : State) : FrontKept s (applyAlertFrames p was now s) := by
  unfold Machine.applyAlertFrames
  split
  · exact .of_frame
  · exact .refl s

theorem applyNotices (p : Port) (ses : Session) (was now : Bool) (s : State) :
    FrontKept s (applyNotices p ses was now s) := by
  unfold Machine.applyNotices
  split
  · exact .of_frame
  · split <;> exact .of_frame

theorem setSessionOptionsBlock (p : Port) (bs : List Byte) (s : State) :
    FrontKept s (setSessionOptionsBlock p bs s).1 := by
  unfold Machine.setSessionOptionsBlock
  split
  · exact .refl s
  · exact .refl s
  · exact (FrontKept.applyAlertFrames p _ _ s).trans (.applyNotices p _ _ _ _)

theorem clearExceptionBlock (bs : List Byte) (s : State) : FrontKept s (clearExceptionBlock bs s).1 := by
  unfold Machine.clearExceptionBlock
  split
  · exact .refl s
  · dsimp only
    split <;> exact .of_frame

/-! ### A request step, and a reset -/

/-- A request step keeps what its block keeps (R157). -/
theorem request {p : Port} {k : RequestKind} {block : List Byte → State → Answer}
    (hb : ∀ bs t, FrontKept t (block bs t).1) (s : State) : FrontKept s (request p k block s) :=
  request_induct (fun _ ht => ht.trans .of_frame) (fun _ _ ht => ht.trans .of_frame) (fun _ _ ht => ht.trans .of_frame)
    (fun bs t ht => ht.trans (hb bs t)) (.refl s)

/-- After a reset every line is OFF in both banks, under whatever time options it keeps (R87, R104, R121). -/
theorem reset (cause : ResetCause) (straps : Straps) (s : State) : FrontKept s (resetPart cause straps s) := by
  have hoff : State.reset.rules.active.lines[31].mode = .off ∧ State.reset.rules.staged.lines[31].mode = .off :=
    ⟨rfl, rfl⟩
  refine ⟨fun _ => ⟨reset_linesOk.lines, fun _ => ⟨hoff.1, rfl⟩, fun _ h => ?_⟩, fun _ => reset_heldOk⟩
  exact nomatch hoff.2.symm.trans h

/-! ### Every command -/

/-- Every command keeps the lines in order, and held entries to their causes. -/
theorem exec {c : Instr} {s t : State} (ht : exec c s = .next t) : FrontKept s t := by
  cases c
  case classifierTakeEntry => exact .classifierTakeEntry ht
  case deferredSnapshotBuild => exact .deferredSnapshotBuild ht
  case validationCompletion syncRead => exact .validationCompletion ht
  all_goals obtain rfl := Host.Outcome.next.inj ht
  case powerOnReset straps => exact .reset _ straps s
  case pinReset straps => exact .reset _ straps s
  case restartTimerExpiry straps =>
    split
    · exact .refl s
    · split
      · exact .reset _ straps s
      · exact .refl s
  case receiveByte p b stopLow =>
    cases p with
    | a =>
      dsimp only
      split <;> exact .of_frame
    | b => exact .of_frame
  case selectionEnd => exact .of_frame
  case gapTimerExpiry p =>
    split
    · exact .refl s
    · split
      · exact .of_frame
      · exact .refl s
  case transmitFrameBegin p => exact .of_frame
  case transmitFrameComplete p straps =>
    split
    · exact .refl s
    · split
      · have hsent : FrontKept s (s.setPort p { s.ports.get p with sending := none }) := .of_frame
        unfold restartAfter
        split
        · exact hsent
        · split
          · exact hsent.trans (.reset _ straps _)
          · exact hsent
      · exact .refl s
  case unknownKindRequest p =>
    exact takeRequest_induct (fun _ ht => ht.trans .of_frame) (fun _ _ ht => ht.trans .of_frame)
      (fun _ _ ht => ht.trans .of_frame) (fun _ _ ht => ht) (.refl s)
  case identify p => exact .request (fun _ t => .refl t) s
  case openSession p => exact .request (.openBlock p) s
  case closeSession p => exact .request (fun _ t => .of_frame (t := endSession p t)) s
  case ping p => exact .request (fun _ t => .refl t) s
  case claim p => exact .request (.claimBlock p) s
  case releaseClaim p => exact .request (.releaseBlock p) s
  case restart p => exact .request (.restartBlock p) s
  case sessionTimerExpiry p =>
    split
    · exact .refl s
    · split
      · exact .of_frame
      · exact .refl s
  case readRecords p => exact .request .readRecordsBlock s
  case getJournalStatus p => exact .request (fun _ t => .refl t) s
  case clearJournal p => exact .request (fun _ _ => .withClaim .of_frame) s
  case setJournalMode p => exact .request (.setJournalModeBlock p) s
  case subscribe p => exact .request (.subscribeBlock p) s
  case resume p => exact .request (.resumeBlock p) s
  case unsubscribe p => exact .request (fun _ t => .of_frame (t := endReader p t)) s
  case ack p => exact .request (.ackBlock p) s
  case dropReader p => exact .request (.dropReaderBlock p) s
  case queueRecordsFrame p =>
    split
    · exact .refl s
    · dsimp only
      split <;> exact .of_frame
  case queueGapFrame p =>
    split
    · exact .refl s
    · split
      · exact .refl s
      · split <;> exact .of_frame
  case retransmitTimerExpiry p =>
    split
    · exact .refl s
    · split
      · exact .of_frame
      · exact .refl s
  case listIncidents p => exact .request .listIncidentsBlock s
  case closeIncident p =>
    split
    · exact .refl s
    · exact .request (.closeIncidentBlock p) s
  case quietTimerExpiry slot =>
    split
    · exact .refl s
    · split
      · exact .of_frame
      · exact .refl s
  case durationTimerExpiry slot =>
    split
    · exact .refl s
    · split
      · exact .of_frame
      · exact .refl s
  case sampleInstant pins =>
    split
    · exact .sampleAll pins s
    · exact .refl s
  case chatterWindowExpiry i =>
    split
    · exact .endWindow s i
    · exact .refl s
  case releaseTimerExpiry i =>
    split
    · next hphase =>
      split
      · exact .releaseLine hphase
      · exact .refl s
    all_goals exact .refl s
  case heldEntryAdmission => exact .admitHeld s
  case getLines p => exact .request (fun _ t => .refl t) s
  case takeSnapshot p => exact .request (.takeSnapshotBlock p) s
  case syncEdge edge =>
    split
    · exact .takePulse s
    · exact .refl s
  case missingPulseTimerExpiry =>
    split
    · exact .reportQuality (c := s.clock.coast) rfl _
    · exact .refl s
  case holdoverTimerExpiry => exact .reportQuality (options_expireHoldover _) _
  case getTime p => exact .request (fun _ t => .refl t) s
  case setTime p => exact .request (.setTimeBlock p) s
  case setTimeOptions p => exact .request (.setTimeOptionsBlock p) s
  case readRule p => exact .request .readRuleBlock s
  case writeLineRule p => exact .request (.writeLineRuleBlock p) s
  case writeGroupRule p => exact .request (.writeGroupRuleBlock p) s
  case writeGlobalRule p => exact .request (.writeGlobalRuleBlock p) s
  case copyActiveToStaged p => exact .request (fun _ _ => .withClaim (.editStaged _ _)) s
  case switchRules p => exact .request (.switchRulesBlock p) s
  case switchInstant =>
    split
    · next hready =>
      obtain ⟨⟨hdraining, -⟩, -⟩ : (s.switch.phase = .draining ∧ s.fifo = []) ∧ s.classifier.inHand = none := by
        simpa [State.draining] using hready
      exact .switchInstant hdraining
    · exact .refl s
  case abortSwitch p => exact .request (.abortSwitchBlock p) s
  case getSwitchStatus p => exact .request (fun _ t => .refl t) s
  case clearAlert p => exact .request .clearAlertBlock s
  case setSessionOptions p => exact .request (.setSessionOptionsBlock p) s
  case getExceptions p => exact .request (fun _ t => .refl t) s
  case clearException p => exact .request .clearExceptionBlock s

end FrontKept

/-- Settles O28: both invariants are kept by every command, whatever else it changes. -/
theorem stepKeepsFrontEnd : Obligations.StepKeepsFrontEnd := by
  refine ⟨step_keeps (P := State.LinesOk) ?_ ?_ ?_, step_keeps (P := State.HeldOk) ?_ ?_ ?_⟩
  · exact fun _ _ h => ⟨h.lines, h.line31, h.switch⟩
  · exact fun _ h => ⟨h.lines, h.line31, h.switch⟩
  · exact fun _ _ _ h ht => (FrontKept.exec ht).lines h
  · exact fun _ _ h => h
  · exact fun _ h => h
  · exact fun _ _ _ h ht => (FrontKept.exec ht).held h

end Sys2Proof.Machine
end

section
/-!
PROOFS. The time base as every command leaves it (R88 to R104): one inversion lemma says all that a command does to it.
Its proofs are checked one after another (Elab.async off), within the memory of one.
-/
namespace Sys2Proof.Machine
set_option Elab.async false

/-! ### Requests that leave the time base -/

/-- A request step leaves the time base, if its block does (R157). -/
theorem clock_request {s : State} {p : Port} {k : RequestKind} {block : List Byte → State → Answer}
    (hb : ∀ bs t, (block bs t).1.clock = t.clock) : (request p k block s).clock = s.clock :=
  request_keeps State.clock (fun _ _ => rfl) hb

/-- A block that needs the claim leaves the time base, if what it does with the claim does (R165). -/
theorem clock_withClaim {p : Port} {s : State} {a : Answer} (h : a.1.clock = s.clock) :
    (withClaim p s a).1.clock = s.clock :=
  withClaim_keeps State.clock h

theorem clock_openBlock (p : Port) (bs : List Byte) (s : State) : (openBlock p bs s).1.clock = s.clock := by
  unfold openBlock
  (repeat' split) <;> simp [refuse]

theorem clock_claimBlock (p : Port) (bs : List Byte) (s : State) : (claimBlock p bs s).1.clock = s.clock := by
  unfold claimBlock
  (repeat' split) <;> rfl

theorem clock_releaseBlock (p : Port) (bs : List Byte) (s : State) : (releaseBlock p bs s).1.clock = s.clock := by
  unfold releaseBlock
  split <;> rfl

theorem clock_restartBlock (p : Port) (bs : List Byte) (s : State) : (restartBlock p bs s).1.clock = s.clock := by
  refine clock_withClaim ?_
  split <;> rfl

theorem clock_readRecordsBlock (bs : List Byte) (s : State) : (readRecordsBlock bs s).1.clock = s.clock := by
  unfold readRecordsBlock
  (repeat' split) <;> rfl

theorem clock_setMode (mode : JournalMode) (s : State) : (setMode mode s).1.clock = s.clock := by
  unfold setMode
  (repeat' split) <;> rfl

theorem clock_setJournalModeBlock (p : Port) (bs : List Byte) (s : State) :
    (setJournalModeBlock p bs s).1.clock = s.clock := by
  refine clock_withClaim ?_
  split
  · rfl
  · exact clock_setMode _ s

theorem clock_subscribeBlock (p : Port) (bs : List Byte) (s : State) : (subscribeBlock p bs s).1.clock = s.clock := by
  unfold subscribeBlock
  (repeat' split) <;> simp [refuse]

theorem clock_resumeBlock (p : Port) (bs : List Byte) (s : State) : (resumeBlock p bs s).1.clock = s.clock := by
  unfold resumeBlock
  dsimp only
  split <;> simp [refuse]

theorem clock_ackReader (p : Port) (r : Subscription) (n : Seq) (s : State) :
    (ackReader p r n s).1.clock = s.clock := by
  unfold ackReader
  (repeat' split) <;> simp

theorem clock_ackBlock (p : Port) (bs : List Byte) (s : State) : (ackBlock p bs s).1.clock = s.clock := by
  unfold ackBlock
  (repeat' split) <;> simp [refuse, clock_ackReader]

theorem clock_dropReaderBlock (p : Port) (bs : List Byte) (s : State) :
    (dropReaderBlock p bs s).1.clock = s.clock := by
  refine clock_withClaim ?_
  split <;> simp [refuse]

theorem clock_listIncidentsBlock (bs : List Byte) (s : State) : (listIncidentsBlock bs s).1.clock = s.clock := by
  unfold listIncidentsBlock
  split <;> rfl

theorem clock_closeIncidentBlock (p : Port) (bs : List Byte) (s : State) :
    (closeIncidentBlock p bs s).1.clock = s.clock := by
  refine clock_withClaim ?_
  (repeat' split) <;> simp [refuse]

theorem clock_takeSnapshotBlock (p : Port) (bs : List Byte) (s : State) :
    (takeSnapshotBlock p bs s).1.clock = s.clock := by
  unfold takeSnapshotBlock
  split <;> rfl

theorem clock_readRuleBlock (bs : List Byte) (s : State) : (readRuleBlock bs s).1.clock = s.clock := by
  unfold readRuleBlock
  split <;> rfl

theorem clock_editStaged (edit : Bank → Bank) (s : State) : (editStaged edit s).1.clock = s.clock := by
  unfold editStaged
  split <;> rfl

theorem clock_writeLineRuleBlock (p : Port) (bs : List Byte) (s : State) :
    (writeLineRuleBlock p bs s).1.clock = s.clock := by
  refine clock_withClaim ?_
  split
  · rfl
  · exact clock_editStaged _ s

theorem clock_writeGroupRuleBlock (p : Port) (bs : List Byte) (s : State) :
    (writeGroupRuleBlock p bs s).1.clock = s.clock := by
  refine clock_withClaim ?_
  split
  · rfl
  · exact clock_editStaged _ s

theorem clock_writeGlobalRuleBlock (p : Port) (bs : List Byte) (s : State) :
    (writeGlobalRuleBlock p bs s).1.clock = s.clock := by
  refine clock_withClaim ?_
  split
  · rfl
  · exact clock_editStaged _ s

theorem clock_switchRulesBlock (p : Port) (bs : List Byte) (s : State) :
    (switchRulesBlock p bs s).1.clock = s.clock := by
  refine clock_withClaim ?_
  split <;> rfl

theorem clock_abortSwitchBlock (p : Port) (bs : List Byte) (s : State) :
    (abortSwitchBlock p bs s).1.clock = s.clock := by
  refine clock_withClaim ?_
  split <;> simp [refuse]

theorem clock_clearAlertBlock (bs : List Byte) (s : State) : (clearAlertBlock bs s).1.clock = s.clock := by
  unfold clearAlertBlock
  (repeat' split) <;> rfl

theorem clock_applyAlertFrames (p : Port) (was now : Bool) (s : State) :
    (applyAlertFrames p was now s).clock = s.clock := by
  unfold applyAlertFrames
  split <;> rfl

theorem clock_applyNotices (p : Port) (ses : Session) (was now : Bool) (s : State) :
    (applyNotices p ses was now s).clock = s.clock := by
  unfold applyNotices
  (repeat' split) <;> simp

theorem clock_setSessionOptionsBlock (p : Port) (bs : List Byte) (s : State) :
    (setSessionOptionsBlock p bs s).1.clock = s.clock := by
  unfold setSessionOptionsBlock
  split
  · rfl
  · rfl
  · exact (clock_applyNotices _ _ _ _ _).trans (clock_applyAlertFrames _ _ _ _)

theorem clock_clearExceptionBlock (bs : List Byte) (s : State) : (clearExceptionBlock bs s).1.clock = s.clock := by
  unfold clearExceptionBlock
  split
  · rfl
  · dsimp only
    split <;> simp

/-! ### The requests that set the time base (R91, R92) -/

/-- SET_TIME leaves the time base as it was, or sets the time it names (R91). -/
theorem clock_setTimeBlock (p : Port) (bs : List Byte) (s : State) :
    (setTimeBlock p bs s).1.clock = s.clock ∨ ∃ t, (setTimeBlock p bs s).1.clock = s.clock.setTime t := by
  unfold setTimeBlock withClaim
  split
  · split
    · exact .inl rfl
    · next t _ => exact .inr ⟨t, by simp [setTimeTo]⟩
  · exact .inl rfl

/-- Options read from a request are in range (R92). -/
theorem timeOptionsOf_inRange {bs : List Byte} {o : TimeOptions} (h : timeOptionsOf bs = some o) : o.inRange := by
  simp only [timeOptionsOf, Option.bind_eq_bind, Option.bind_eq_some_iff] at h
  obtain ⟨on, -, edge, -, window, hwindow, limit, hlimit, threshold, hthreshold, ho⟩ := h
  cases ho
  exact ⟨within_eq_some hwindow, within_eq_some hlimit, (within_eq_some hthreshold).2⟩

/-- SET_TIME_OPTIONS leaves the time base as it was, or writes options that are in range (R92). -/
theorem clock_setTimeOptionsBlock (p : Port) (bs : List Byte) (s : State) :
    (setTimeOptionsBlock p bs s).1.clock = s.clock ∨
      ∃ o, o.inRange ∧ (setTimeOptionsBlock p bs s).1.clock = s.clock.setOptions o := by
  unfold setTimeOptionsBlock withClaim
  split
  · split
    · exact .inl rfl
    · next o ho =>
      split
      · exact .inl rfl
      · exact .inr ⟨o, timeOptionsOf_inRange ho, by simp [writeOptions]⟩
  · exact .inl rfl

/-- What the ports do not enter, a request step leaves as it was, or as its block does (R157). -/
theorem request_keeps_or {α : Type} (g : State → α) (hp : ∀ t p x, g (State.setPort t p x) = g t) {s : State} {p : Port}
    {k : RequestKind} (block : List Byte → State → Answer) :
    g (request p k block s) = g s ∨ ∃ bs t, g t = g s ∧ g (request p k block s) = g (block bs t).1 := by
  have hin (t : State) : g (t.putInHand p) = g t := hp _ _ _
  have hqueue (t : State) (r : Reply) : g (t.queueFrame p (.reply false r)) = g t := hp _ _ _
  have hanswer (t : State) (r : Reply) : g (t.answer p r) = g t := (hp _ _ _).trans (hqueue t r)
  unfold request takeRequest
  split
  · exact .inl rfl
  · split
    · dsimp only
      split
      · exact .inl ((hqueue _ _).trans (hin s))
      · unfold carryOut
        split
        · exact .inl ((hanswer _ _).trans (hin s))
        · split
          · exact .inl ((hanswer _ _).trans (hin s))
          · exact .inr ⟨_, s.putInHand p, hin s, hanswer _ _⟩
    · exact .inl rfl

/-! ### Every command -/

/-- What a command makes of the time base. -/
inductive TimeBase.Moves (c : TimeBase) : Instr → TimeBase → Prop where
  /-- It stays. -/
  | kept {i : Instr} : c.Moves i c
  /-- The part resets (R103, R104). -/
  | reset {i : Instr} (cause : ResetCause) (hi : Instr.mayReset i = true) : c.Moves i (c.afterReset cause)
  /-- A pulse is taken (R94). -/
  | pulse {edge : SyncEdge} (h : c.takesPulse edge = true) : c.Moves (.syncEdge edge) c.pulse
  /-- LOCKED time enters HOLDOVER (R98). -/
  | coasts (h : c.quality = .locked) : c.Moves .missingPulseTimerExpiry c.coast
  /-- HOLDOVER ends by its timer (R99). -/
  | expires : c.Moves .holdoverTimerExpiry c.expireHoldover
  /-- The time is set (R91). -/
  | set {p : Port} (t : TimeOfDay) : c.Moves (.setTime p) (c.setTime t)
  /-- The options are written, in range (R92). -/
  | options {p : Port} (o : TimeOptions) (ho : o.inRange) : c.Moves (.setTimeOptions p) (c.setOptions o)

theorem TimeBase.Moves.of_eq {i : Instr} {c d : TimeBase} (h : d = c) : c.Moves i d :=
  h ▸ .kept

/-- What leaves the time base, by its frame. -/
theorem TimeBase.Moves.of_frame {i : Instr} {s t : State} (h : t.clock = s.clock := by simp) :
    s.clock.Moves i t.clock :=
  .of_eq h

/-- The report of the quality leaves what the time base has become (R90). -/
theorem TimeBase.Moves.reportQuality {i : Instr} {s : State} {c : TimeBase} (h : s.clock.Moves i c) (old : Quality) :
    s.clock.Moves i (reportQuality old { s with clock := c }).clock := by
  simpa using h

/-- SET_TIME (R91). -/
theorem TimeBase.Moves.setTime (p : Port) (s : State) :
    s.clock.Moves (.setTime p) (request p .setTime (setTimeBlock p) s).clock := by
  rcases request_keeps_or State.clock (fun _ _ _ => rfl) (setTimeBlock p) with h | ⟨bs, t, ht, h⟩
  · exact .of_eq h
  · rw [h, ← ht]
    rcases clock_setTimeBlock p bs t with hkept | ⟨time, hset⟩
    · exact .of_eq hkept
    · exact hset ▸ .set time

/-- SET_TIME_OPTIONS (R92). -/
theorem TimeBase.Moves.setTimeOptions (p : Port) (s : State) :
    s.clock.Moves (.setTimeOptions p) (request p .setTimeOptions (setTimeOptionsBlock p) s).clock := by
  rcases request_keeps_or State.clock (fun _ _ _ => rfl) (setTimeOptionsBlock p) with h | ⟨bs, t, ht, h⟩
  · exact .of_eq h
  · rw [h, ← ht]
    rcases clock_setTimeOptionsBlock p bs t with hkept | ⟨o, ho, hset⟩
    · exact .of_eq hkept
    · exact hset ▸ .options o ho

/-- CLASSIFIER_TAKE_ENTRY leaves the time base (R113 to R117). -/
theorem clock_execClassifierTakeEntry {s t : State} (ht : execClassifierTakeEntry s = .next t) :
    t.clock = s.clock := by
  obtain rfl := Host.Outcome.next.inj ht
  split
  · exact (carryOn_frame _ _).2.1
  · rfl
  · rfl
  · simp

/-- Every command does one of these to the time base. -/
theorem TimeBase.Moves.of_exec {i : Instr} {s t : State} (ht : exec i s = .next t) : s.clock.Moves i t.clock := by
  cases i
  case classifierTakeEntry => exact .of_eq (clock_execClassifierTakeEntry ht)
  all_goals obtain rfl := Host.Outcome.next.inj ht
  case powerOnReset straps => exact .reset .powerOn rfl
  case pinReset straps => exact .reset .pin rfl
  case restartTimerExpiry straps =>
    split
    · exact .kept
    · next r _ =>
      split
      · exact .reset r.option.cause rfl
      · exact .kept
  case receiveByte p b stopLow =>
    cases p with
    | a =>
      dsimp only
      split <;> exact .of_frame
    | b => exact .of_frame
  case selectionEnd => exact .kept
  case gapTimerExpiry p =>
    (repeat' split) <;> exact .of_frame
  case transmitFrameBegin p => exact .of_frame
  case transmitFrameComplete p straps =>
    split
    · exact .kept
    · split
      · unfold restartAfter
        split
        · exact .kept
        · next r _ =>
          split
          · exact .reset r.option.cause rfl
          · exact .kept
      · exact .kept
  case unknownKindRequest p =>
    exact .of_eq (takeRequest_induct (motive := fun t => t.clock = s.clock) (fun _ => id) (fun _ _ => id)
      (fun _ _ => id) (fun _ _ => id) rfl)
  case identify p => exact .of_eq (clock_request fun _ _ => rfl)
  case openSession p => exact .of_eq (clock_request (clock_openBlock p))
  case closeSession p => exact .of_eq (clock_request fun _ t => (endSession_frame p t).2.1)
  case ping p => exact .of_eq (clock_request fun _ _ => rfl)
  case claim p => exact .of_eq (clock_request (clock_claimBlock p))
  case releaseClaim p => exact .of_eq (clock_request (clock_releaseBlock p))
  case restart p => exact .of_eq (clock_request (clock_restartBlock p))
  case sessionTimerExpiry p =>
    (repeat' split) <;> exact .of_frame
  case readRecords p => exact .of_eq (clock_request clock_readRecordsBlock)
  case getJournalStatus p => exact .of_eq (clock_request fun _ _ => rfl)
  case clearJournal p => exact .of_eq (clock_request fun _ t => clock_withClaim (clearJournal_frame t).2.1)
  case setJournalMode p => exact .of_eq (clock_request (clock_setJournalModeBlock p))
  case subscribe p => exact .of_eq (clock_request (clock_subscribeBlock p))
  case resume p => exact .of_eq (clock_request (clock_resumeBlock p))
  case unsubscribe p => exact .of_eq (clock_request fun _ t => (endReader_frame p t).2.1)
  case ack p => exact .of_eq (clock_request (clock_ackBlock p))
  case dropReader p => exact .of_eq (clock_request (clock_dropReaderBlock p))
  case queueRecordsFrame p =>
    dsimp only
    (repeat' split) <;> exact .kept
  case queueGapFrame p =>
    (repeat' split) <;> exact .kept
  case retransmitTimerExpiry p =>
    (repeat' split) <;> exact .of_frame
  case listIncidents p => exact .of_eq (clock_request clock_listIncidentsBlock)
  case closeIncident p =>
    split
    · exact .kept
    · exact .of_eq (clock_request (clock_closeIncidentBlock p))
  case quietTimerExpiry slot =>
    (repeat' split) <;> exact .of_frame
  case durationTimerExpiry slot =>
    (repeat' split) <;> exact .of_frame
  case sampleInstant pins =>
    split <;> exact .of_frame
  case chatterWindowExpiry line =>
    split <;> exact .of_frame
  case releaseTimerExpiry line =>
    (repeat' split) <;> exact .of_frame
  case heldEntryAdmission => exact .of_frame
  case getLines p => exact .of_eq (clock_request fun _ _ => rfl)
  case takeSnapshot p => exact .of_eq (clock_request (clock_takeSnapshotBlock p))
  case deferredSnapshotBuild =>
    (repeat' split) <;> exact .of_frame
  case syncEdge edge =>
    split
    · next htakes =>
      have hclock : (takePulse s).clock = s.clock.pulse := by simp [takePulse]
      exact hclock ▸ .pulse htakes
    · exact .kept
  case missingPulseTimerExpiry =>
    split
    · next hdue =>
      rw [Bool.and_eq_true, beq_iff_eq] at hdue
      exact (TimeBase.Moves.coasts hdue.1).reportQuality _
    · exact .kept
  case holdoverTimerExpiry => exact TimeBase.Moves.expires.reportQuality _
  case getTime p => exact .of_eq (clock_request fun _ _ => rfl)
  case setTime p => exact .setTime p s
  case setTimeOptions p => exact .setTimeOptions p s
  case readRule p => exact .of_eq (clock_request clock_readRuleBlock)
  case writeLineRule p => exact .of_eq (clock_request (clock_writeLineRuleBlock p))
  case writeGroupRule p => exact .of_eq (clock_request (clock_writeGroupRuleBlock p))
  case writeGlobalRule p => exact .of_eq (clock_request (clock_writeGlobalRuleBlock p))
  case copyActiveToStaged p => exact .of_eq (clock_request fun _ t => clock_withClaim (clock_editStaged _ t))
  case switchRules p => exact .of_eq (clock_request (clock_switchRulesBlock p))
  case validationCompletion syncRead =>
    (repeat' split) <;> exact .of_frame
  case switchInstant =>
    split <;> exact .of_frame
  case abortSwitch p => exact .of_eq (clock_request (clock_abortSwitchBlock p))
  case getSwitchStatus p => exact .of_eq (clock_request fun _ _ => rfl)
  case clearAlert p => exact .of_eq (clock_request clock_clearAlertBlock)
  case setSessionOptions p => exact .of_eq (clock_request (clock_setSessionOptionsBlock p))
  case getExceptions p => exact .of_eq (clock_request fun _ _ => rfl)
  case clearException p => exact .of_eq (clock_request clock_clearExceptionBlock)

end Sys2Proof.Machine
end

section
/-!
PROOFS. The time base's own operations, case by case: what each makes of it, and that timers and counts stay those of
the quality (R88 to R104). Its proofs are checked one after another (Elab.async off), within the memory of one.
-/
namespace Sys2Proof.Machine
set_option Elab.async false

/-! ### A pulse, by the quality in force and the error (R96, R97, R99) -/

theorem freePulse_of_outside {c : TimeBase} (h : c.withinWindow = false) :
    c.freePulse = { c.correct with goodCount := 0 } := by
  simp [TimeBase.freePulse, h]

theorem freePulse_of_few {c : TimeBase} (h : c.withinWindow = true) (hfew : c.goodCount < 2) :
    c.freePulse = { c.correct with goodCount := c.goodCount + 1 } := by
  simp [TimeBase.freePulse, h, Config.goodToLock, Nat.not_le.2 hfew]

theorem freePulse_of_third {c : TimeBase} (h : c.withinWindow = true) (hthird : 2 ≤ c.goodCount) :
    c.freePulse = c.correct.lock := by
  simp [TimeBase.freePulse, h, Config.goodToLock, Nat.not_lt.2 hthird]

theorem lockedPulse_of_within {c : TimeBase} (h : c.withinWindow = true) : c.lockedPulse =
    { c.correct with outlierCount := 0, missingPulse := some (afterUs c.uptime Config.missingPulseUs) } := by
  simp [TimeBase.lockedPulse, h]

/-- The first two outliers are ridden through (R97). -/
theorem lockedPulse_of_few {c : TimeBase} (h : c.withinWindow = false) (hfew : c.outlierCount < 2) : c.lockedPulse =
    { c with
      outlierCount := c.outlierCount + 1
      missingPulse := some (afterUs c.uptime Config.missingPulseUs) } := by
  simp [TimeBase.lockedPulse, h, Config.outliersToFree, Nat.not_le.2 hfew]

/-- The third outlier drops the time to FREE, in which it is no good pulse either (R97). -/
theorem lockedPulse_of_third {c : TimeBase} (h : c.withinWindow = false) (hthird : 2 ≤ c.outlierCount) :
    c.lockedPulse =
      { c.correct with quality := .free, goodCount := 0, outlierCount := 0, missingPulse := none } := by
  have hfree : TimeBase.withinWindow { c with quality := .free, outlierCount := 0, missingPulse := none } = false := h
  simp [TimeBase.lockedPulse, h, Config.outliersToFree, hthird, freePulse_of_outside hfree,
    TimeBase.correct]

theorem holdoverPulse_of_within {c : TimeBase} (h : c.withinWindow = true) : c.holdoverPulse = c.correct.lock := by
  simp [TimeBase.holdoverPulse, h]

theorem holdoverPulse_of_outside {c : TimeBase} (h : c.withinWindow = false) :
    c.holdoverPulse = { c.correct with quality := .free, goodCount := 0, holdover := none } := by
  simp [TimeBase.holdoverPulse, h]

/-! ### New options (R92, R93, R99) -/

/-- The holdover timer under new options: a new limit counts from the uptime at which HOLDOVER was entered (R93). -/
def TimeBase.newTimer (o : TimeOptions) (c : TimeBase) : Option HoldoverTimer :=
  if o.holdoverLimitS = c.options.holdoverLimitS then c.holdover
  else c.holdover.map fun h => ⟨h.entered, afterUs h.entered (o.holdoverLimitS * 1000000)⟩

/-- A new limit whose deadline has passed ends HOLDOVER (R93, R99). -/
def TimeBase.Lapses (o : TimeOptions) (c : TimeBase) : Prop :=
  o.holdoverLimitS ≠ c.options.holdoverLimitS ∧ c.quality = .holdover ∧
    ∃ h, c.newTimer o = some h ∧ reached c.uptime h.deadline = true

theorem expireHoldover_of_due {c : TimeBase} {h : HoldoverTimer} (hq : c.quality = .holdover) (hh : c.holdover = some h)
    (hdue : reached c.uptime h.deadline = true) : c.expireHoldover = { c with quality := .free, holdover := none } := by
  simp [TimeBase.expireHoldover, hq, hh, expired, hdue]

theorem expireHoldover_of_not_due {c : TimeBase}
    (h : c.quality = .holdover → ∀ x, c.holdover = some x → reached c.uptime x.deadline = false) :
    c.expireHoldover = c := by
  rcases expireHoldover_cases c with hsame | ⟨hq, ⟨x, hx, hdue⟩, -⟩
  · exact hsame
  · exact absurd (hdue.symm.trans (h hq x hx)) (by decide)

/-- The limit written anew sets the timer anew, and the expiry is judged by it (R93). -/
theorem limitHoldover_of_ne {o : TimeOptions} {c : TimeBase} (h : o.holdoverLimitS ≠ c.options.holdoverLimitS) :
    TimeBase.limitHoldover c.options.holdoverLimitS { c with options := o } =
      TimeBase.expireHoldover { c with options := o, holdover := c.newTimer o } := by
  simp [TimeBase.limitHoldover, TimeBase.newTimer, h]

theorem limitHoldover_of_lapses {o : TimeOptions} {c : TimeBase} (h : c.Lapses o) :
    TimeBase.limitHoldover c.options.holdoverLimitS { c with options := o } =
      { c with options := o, holdover := none, quality := .free } := by
  obtain ⟨hne, hq, x, hx, hdue⟩ := h
  rw [limitHoldover_of_ne hne]
  exact expireHoldover_of_due hq hx hdue

theorem limitHoldover_of_not_lapses {o : TimeOptions} {c : TimeBase} (h : ¬ c.Lapses o) :
    TimeBase.limitHoldover c.options.holdoverLimitS { c with options := o } =
      { c with options := o, holdover := c.newTimer o } := by
  by_cases hne : o.holdoverLimitS = c.options.holdoverLimitS
  · simp [TimeBase.limitHoldover, TimeBase.newTimer, hne]
  · rw [limitHoldover_of_ne hne]
    refine expireHoldover_of_not_due fun hq x hx => ?_
    by_contra hdue
    exact h ⟨hne, hq, x, hx, Bool.of_not_eq_false hdue⟩

/-- The time base under new options, before SYNC is switched: all but the options, the holdover timer and the quality
stay, and the quality may fall from HOLDOVER to FREE (R93). -/
theorem limitHoldover_cases (o : TimeOptions) (c : TimeBase) :
    (c.quality = .holdover ∧ TimeBase.limitHoldover c.options.holdoverLimitS { c with options := o } =
      { c with options := o, holdover := none, quality := .free }) ∨
    TimeBase.limitHoldover c.options.holdoverLimitS { c with options := o } =
      { c with options := o, holdover := c.newTimer o } := by
  by_cases h : c.Lapses o
  · exact .inl ⟨h.2.1, limitHoldover_of_lapses h⟩
  · exact .inr (limitHoldover_of_not_lapses h)

/-! ### The quality with its timers and counts (R90, R96 to R99) -/

/-- The timers and counts of `c` are those of time of the given quality (R96 to R99). -/
def Quality.Fits (c : TimeBase) : Quality → Prop
  | .unset => c.missingPulse = none ∧ c.holdover = none ∧ c.goodCount = 0 ∧ c.outlierCount = 0
  | .free => c.missingPulse = none ∧ c.holdover = none ∧ c.goodCount < 3 ∧ c.outlierCount = 0
  | .locked => c.missingPulse.isSome = true ∧ c.holdover = none ∧ c.goodCount = 0 ∧ c.outlierCount < 3
  | .holdover => c.missingPulse = none ∧ c.holdover.isSome = true ∧ c.goodCount = 0 ∧ c.outlierCount = 0

/-- Timers and counts are those of the quality in force. -/
def TimeBase.Timed (c : TimeBase) : Prop := c.quality.Fits c

/-- LOCKED and HOLDOVER stand only with SYNC on (R90). -/
def TimeBase.SyncKept (c : TimeBase) : Prop :=
  c.quality = .locked ∨ c.quality = .holdover → c.options.syncEnable = true

theorem TimeBase.timed_iff {c : TimeBase} : c.Timed ↔
    (c.missingPulse.isSome = true ↔ c.quality = .locked) ∧ (c.holdover.isSome = true ↔ c.quality = .holdover) ∧
      (c.goodCount < 3 ∧ (c.goodCount ≠ 0 → c.quality = .free)) ∧
      (c.outlierCount < 3 ∧ (c.outlierCount ≠ 0 → c.quality = .locked)) := by
  unfold TimeBase.Timed
  cases c.quality <;> simp [Quality.Fits] <;> omega

theorem TimeBase.ok_iff {c : TimeBase} : c.Ok ↔ c.Timed ∧ c.SyncKept ∧ c.options.inRange := by
  rw [timed_iff]
  exact ⟨fun h => ⟨⟨h.missing, h.holdover, h.good, h.outlier⟩, h.sync, h.options⟩,
    fun ⟨⟨hmissing, hholdover, hgood, houtlier⟩, hsync, hrange⟩ =>
      ⟨hsync, hmissing, hholdover, hgood, houtlier, hrange⟩⟩

namespace TimeBase.Timed

theorem fits {c : TimeBase} {q : Quality} (h : c.Timed) (hq : c.quality = q) : q.Fits c := hq ▸ h

theorem of_fits {c : TimeBase} {q : Quality} (hq : c.quality = q) (h : q.Fits c) : c.Timed := by
  subst hq
  exact h

theorem lock (c : TimeBase) : c.lock.Timed := ⟨rfl, rfl, rfl, Nat.zero_lt_succ 2⟩

theorem freePulse {c : TimeBase} (h : c.Timed) (hq : c.quality = .free) : c.freePulse.Timed := by
  obtain ⟨hmissing, hholdover, -, houtlier⟩ := h.fits hq
  cases hwithin : c.withinWindow with
  | false =>
    rw [freePulse_of_outside hwithin]
    exact .of_fits hq ⟨hmissing, hholdover, Nat.zero_lt_succ 2, houtlier⟩
  | true =>
    rcases Nat.lt_or_ge c.goodCount 2 with hfew | hthird
    · rw [freePulse_of_few hwithin hfew]
      exact .of_fits hq ⟨hmissing, hholdover, Nat.succ_lt_succ hfew, houtlier⟩
    · rw [freePulse_of_third hwithin hthird]
      exact .lock _

theorem lockedPulse {c : TimeBase} (h : c.Timed) (hq : c.quality = .locked) : c.lockedPulse.Timed := by
  obtain ⟨-, hholdover, hgood, -⟩ := h.fits hq
  cases hwithin : c.withinWindow with
  | true =>
    rw [lockedPulse_of_within hwithin]
    exact .of_fits hq ⟨rfl, hholdover, hgood, Nat.zero_lt_succ 2⟩
  | false =>
    rcases Nat.lt_or_ge c.outlierCount 2 with hfew | hthird
    · rw [lockedPulse_of_few hwithin hfew]
      exact .of_fits hq ⟨rfl, hholdover, hgood, Nat.succ_lt_succ hfew⟩
    · rw [lockedPulse_of_third hwithin hthird]
      exact .of_fits rfl ⟨rfl, hholdover, Nat.zero_lt_succ 2, rfl⟩

theorem holdoverPulse {c : TimeBase} (h : c.Timed) (hq : c.quality = .holdover) : c.holdoverPulse.Timed := by
  obtain ⟨hmissing, -, -, houtlier⟩ := h.fits hq
  cases hwithin : c.withinWindow with
  | true =>
    rw [holdoverPulse_of_within hwithin]
    exact .lock _
  | false =>
    rw [holdoverPulse_of_outside hwithin]
    exact .of_fits rfl ⟨hmissing, rfl, Nat.zero_lt_succ 2, houtlier⟩

/-- A pulse, whatever the quality in force (R96, R97, R99). -/
theorem pulse {c : TimeBase} (h : c.Timed) : c.pulse.Timed := by
  have htaken : TimeBase.Timed { c with lastPulse := some c.uptime } := timed_iff.2 (timed_iff.1 h)
  unfold TimeBase.pulse
  dsimp only
  split
  · exact htaken
  · next hq => exact htaken.freePulse hq
  · next hq => exact htaken.lockedPulse hq
  · next hq => exact htaken.holdoverPulse hq

theorem coast (c : TimeBase) : c.coast.Timed := ⟨rfl, rfl, rfl, rfl⟩

theorem setTime (t : TimeOfDay) (c : TimeBase) : (c.setTime t).Timed := ⟨rfl, rfl, Nat.zero_lt_succ 2, rfl⟩

theorem expireHoldover {c : TimeBase} (h : c.Timed) : c.expireHoldover.Timed := by
  rcases expireHoldover_cases c with hsame | ⟨hq, -, hfree⟩
  · rwa [hsame]
  · obtain ⟨hmissing, -, hgood, houtlier⟩ := h.fits hq
    rw [hfree]
    exact .of_fits rfl ⟨hmissing, rfl, hgood ▸ Nat.zero_lt_succ 2, houtlier⟩

theorem limitHoldover {c : TimeBase} (h : c.Timed) (o : TimeOptions) :
    (TimeBase.limitHoldover c.options.holdoverLimitS { c with options := o }).Timed := by
  rcases limitHoldover_cases o c with ⟨hq, hfree⟩ | hset
  · obtain ⟨hmissing, -, hgood, houtlier⟩ := h.fits hq
    rw [hfree]
    exact .of_fits rfl ⟨hmissing, rfl, hgood ▸ Nat.zero_lt_succ 2, houtlier⟩
  · have htimer : (c.newTimer o).isSome = c.holdover.isSome := by
      unfold TimeBase.newTimer
      split <;> simp
    rw [hset, timed_iff, htimer]
    exact timed_iff.1 h

theorem switchSync {c : TimeBase} (h : c.Timed) (was now : Bool) : (c.switchSync was now).Timed := by
  cases was <;> cases now
  case false.false => exact h
  case true.true => exact h
  case false.true =>
    obtain ⟨hmissing, hholdover, -, -⟩ := timed_iff.1 h
    exact timed_iff.2 ⟨hmissing, hholdover, ⟨Nat.zero_lt_succ 2, nofun⟩, Nat.zero_lt_succ 2, nofun⟩
  case true.false =>
    cases hq : c.quality
    case unset => exact .of_fits (congrArg Quality.syncOff hq) ⟨rfl, rfl, rfl, rfl⟩
    all_goals exact .of_fits (congrArg Quality.syncOff hq) ⟨rfl, rfl, Nat.zero_lt_succ 2, rfl⟩

theorem setOptions {c : TimeBase} (h : c.Timed) (o : TimeOptions) : (c.setOptions o).Timed :=
  (h.limitHoldover o).switchSync _ _

theorem afterReset (cause : ResetCause) (c : TimeBase) : (c.afterReset cause).Timed := by
  have hreset : TimeBase.reset.Timed := ⟨rfl, rfl, rfl, rfl⟩
  cases cause
  case requestKeepTime =>
    unfold TimeBase.afterReset TimeBase.keepTime
    dsimp only
    split
    · exact .of_fits rfl ⟨rfl, rfl, rfl, rfl⟩
    · exact .of_fits rfl ⟨rfl, rfl, Nat.zero_lt_succ 2, rfl⟩
    · exact .of_fits rfl ⟨rfl, rfl, rfl, rfl⟩
    · exact .of_fits rfl ⟨rfl, rfl, rfl, rfl⟩
  all_goals exact hreset

end TimeBase.Timed

/-! ### SYNC under LOCKED and HOLDOVER (R90, R93) -/

namespace TimeBase.SyncKept

theorem of_on {c : TimeBase} (h : c.options.syncEnable = true) : c.SyncKept := fun _ => h

theorem of_ne {c : TimeBase} (hl : c.quality ≠ .locked) (hh : c.quality ≠ .holdover) : c.SyncKept :=
  fun h => (h.elim hl hh).elim

theorem expireHoldover {c : TimeBase} (h : c.SyncKept) : c.expireHoldover.SyncKept := by
  rcases expireHoldover_cases c with hsame | ⟨-, -, hfree⟩
  · rwa [hsame]
  · rw [hfree]
    exact .of_ne nofun nofun

theorem setOptions {c : TimeBase} (h : c.SyncKept) (o : TimeOptions) : (c.setOptions o).SyncKept := by
  cases hnow : o.syncEnable with
  | true => exact .of_on (by rw [options_setOptions, hnow])
  | false =>
    unfold TimeBase.setOptions
    rw [hnow]
    cases hwas : c.options.syncEnable with
    | true =>
      generalize TimeBase.limitHoldover _ _ = limited
      rw [TimeBase.switchSync, TimeBase.SyncKept, TimeBase.syncOff]
      cases limited.quality <;> exact fun h => nomatch h
    | false =>
      have hne {q : Quality} (hq : q = .locked ∨ q = .holdover) : c.quality ≠ q := by
        rintro rfl
        exact absurd (hwas.symm.trans (h hq)) nofun
      rcases limitHoldover_cases o c with ⟨hq, -⟩ | hset
      · exact absurd hq (hne (.inr rfl))
      · rw [TimeBase.switchSync, hset]
        exact .of_ne (hne (.inl rfl)) (hne (.inr rfl))

theorem afterReset (cause : ResetCause) {c : TimeBase} (h : c.SyncKept) : (c.afterReset cause).SyncKept := by
  cases cause
  case requestKeepTime =>
    unfold TimeBase.afterReset TimeBase.keepTime
    dsimp only
    split
    · exact .of_ne nofun nofun
    · exact .of_ne nofun nofun
    · next hq => exact .of_on (h (.inl hq))
    · next hq => exact .of_on (h (.inr hq))
  all_goals exact .of_ne nofun nofun

end TimeBase.SyncKept

end Sys2Proof.Machine
end

section
/-!
PROOFS. O56 and O59: the time quality with its timers, counts and options under every command, and what moves the uptime
and the time of day (R88 to R104). Its proofs are checked one after another (Elab.async off), within the memory of one.
-/
namespace Sys2Proof.Machine
set_option Elab.async false

/-! ### Quality, timers and counts under every command -/

theorem options_afterReset_inRange (cause : ResetCause) {c : TimeBase} (h : c.options.inRange) :
    (c.afterReset cause).options.inRange := by
  cases cause
  case requestKeepTime =>
    have hkept : c.keepTime.options = c.options := (timeKept_keepTime c).2.2.2.2.2.2.1
    exact hkept.symm ▸ h
  all_goals exact reset_timeOk.options

/-- Whatever a command makes of the time base, it stays in order (R90, R93, R96 to R99). -/
theorem TimeBase.Ok.of_moves {i : Instr} {c d : TimeBase} (h : c.Ok) (hm : c.Moves i d) : d.Ok := by
  obtain ⟨htimed, hsync, hrange⟩ := TimeBase.ok_iff.1 h
  rw [TimeBase.ok_iff]
  cases hm with
  | kept => exact ⟨htimed, hsync, hrange⟩
  | reset cause _ => exact ⟨.afterReset cause c, hsync.afterReset cause, options_afterReset_inRange cause hrange⟩
  | pulse htakes =>
    simp only [TimeBase.takesPulse, Bool.and_eq_true] at htakes
    obtain ⟨⟨⟨hon, -⟩, -⟩, -⟩ := htakes
    rw [TimeBase.SyncKept, options_pulse]
    exact ⟨htimed.pulse, fun _ => hon, hrange⟩
  | coasts hq => exact ⟨.coast c, .of_on (hsync (.inl hq)), hrange⟩
  | expires =>
    rw [options_expireHoldover]
    exact ⟨htimed.expireHoldover, hsync.expireHoldover, hrange⟩
  | set t => exact ⟨.setTime t c, .of_ne nofun nofun, hrange⟩
  | options o ho =>
    rw [options_setOptions]
    exact ⟨htimed.setOptions o, hsync.setOptions o, ho⟩

/-- Settles O56: whatever a command makes of the time base keeps it in order, and so does the passing of a
microsecond. -/
theorem stepKeepsTimeBase : Obligations.StepKeepsTimeBase := by
  refine step_keeps (P := fun s => s.clock.Ok) ?_ ?_ ?_
  · exact fun _ _ h => h
  · exact fun _ h => ⟨h.sync, h.missing, h.holdover, h.good, h.outlier, h.options⟩
  · exact fun _ _ _ h ht => h.of_moves (.of_exec ht)

/-! ### Uptime and time of day (R88, R89, R91, R95) -/

theorem uptime_freePulse (c : TimeBase) : c.freePulse.uptime = c.uptime := by
  unfold TimeBase.freePulse
  dsimp only
  (repeat' split) <;> rfl

theorem uptime_lockedPulse (c : TimeBase) : c.lockedPulse.uptime = c.uptime := by
  unfold TimeBase.lockedPulse
  dsimp only
  split
  · rfl
  · split
    · rfl
    · exact uptime_freePulse _

theorem uptime_pulse (c : TimeBase) : c.pulse.uptime = c.uptime := by
  unfold TimeBase.pulse
  dsimp only
  split
  · rfl
  · exact uptime_freePulse _
  · exact uptime_lockedPulse _
  · unfold TimeBase.holdoverPulse
    split <;> rfl

/-- The two counts of time: the uptime and the time of day. -/
def TimeBase.times (c : TimeBase) : Uptime × TimeOfDay := (c.uptime, c.timeOfDay)

theorem times_expireHoldover (c : TimeBase) : c.expireHoldover.times = c.times := by
  rcases expireHoldover_cases c with h | ⟨-, -, h⟩
  · rw [h]
  · rw [h, TimeBase.times, TimeBase.times]

theorem times_switchSync (was now : Bool) (c : TimeBase) : (c.switchSync was now).times = c.times := by
  cases was <;> cases now <;> rfl

theorem times_setOptions (o : TimeOptions) (c : TimeBase) : (c.setOptions o).times = c.times := by
  rw [TimeBase.setOptions, times_switchSync]
  rcases limitHoldover_cases o c with ⟨-, h⟩ | h <;> rw [h] <;> rfl

/-- Settles O59: of all that a command can do to the time base without a reset, none moves the uptime, and only a pulse
and SET_TIME move the time of day. -/
theorem timeMovesByItsCommandsAlone : Obligations.TimeMovesByItsCommandsAlone := by
  intro i s t ht hreset
  have hboth {c d : TimeBase} (h : d.times = c.times) : d.uptime = c.uptime ∧ d.timeOfDay = c.timeOfDay :=
    Prod.mk.inj h
  obtain ⟨c, hc⟩ : ∃ c, t.clock = c := ⟨_, rfl⟩
  have hm := TimeBase.Moves.of_exec ht
  rw [hc] at hm ⊢
  cases hm with
  | kept => exact ⟨rfl, fun _ _ => rfl⟩
  | reset cause hi => exact absurd (hi.symm.trans hreset) nofun
  | pulse _ => exact ⟨uptime_pulse _, fun hne _ => absurd rfl (hne _)⟩
  | coasts _ => exact ⟨rfl, fun _ _ => rfl⟩
  | expires => exact (hboth (times_expireHoldover _)).imp_right fun h _ _ => h
  | set _ => exact ⟨rfl, fun _ hne => absurd rfl (hne _)⟩
  | options o _ => exact (hboth (times_setOptions o _)).imp_right fun h _ _ => h

end Sys2Proof.Machine
end

section
/-!
PROOFS. O2, O44 and O45: the passing of a microsecond, a SYNC pulse with its two reports, and the two timers of the time
base (R88 to R99). Its proofs are checked one after another (Elab.async off), within the memory of one.
-/
namespace Sys2Proof.Machine
set_option Elab.async false

/-! ### Time of day (R89) -/

/-- A time of day moved to `m` microseconds past the second `x` (R89). -/
theorem TimeOfDay.add_eq {t : TimeOfDay} {d x : Int} {m : Fin 1000000}
    (h : (t.seconds.toNat : Int) * 1000000 + t.micros.val + d = x * 1000000 + m.val) :
    t.add d = ⟨BitVec.ofInt 32 x, m⟩ := by
  have hx : (x * 1000000 + m.val) / 1000000 = x := by omega
  have hm : ((x * 1000000 + m.val) % 1000000).toNat = m.val := by omega
  simp only [TimeOfDay.add, h, hx, hm, Fin.ofNat_eq_cast, Fin.cast_val_eq_self]

theorem ofInt_toNat_seconds (s : BitVec 32) : BitVec.ofInt 32 s.toNat = s := by simp

theorem ofInt_toNat_succ (s : BitVec 32) : BitVec.ofInt 32 (s.toNat + 1) = s + 1 := by
  rw [BitVec.ofInt_add, ofInt_toNat_seconds]
  rfl

/-- A microsecond within the second (R89). -/
theorem TimeOfDay.add_one_of_lt {t : TimeOfDay} (h : t.micros.val + 1 < 1000000) :
    t.add 1 = ⟨t.seconds, ⟨t.micros.val + 1, h⟩⟩ := by
  rw [TimeOfDay.add_eq (x := t.seconds.toNat) (m := ⟨t.micros.val + 1, h⟩) (by simp; omega), ofInt_toNat_seconds]

/-- The last microsecond of a second carries into the seconds, which count modulo 2^32 (R89). -/
theorem TimeOfDay.add_one_of_last {t : TimeOfDay} (h : t.micros.val = 999999) : t.add 1 = ⟨t.seconds + 1, 0⟩ := by
  rw [TimeOfDay.add_eq (x := t.seconds.toNat + 1) (m := 0) (by simp; omega), ofInt_toNat_succ]

/-- Settles O2: the tick by whether it carries into the seconds. -/
theorem emptyQueueStepIsOneMicrosecond : Obligations.EmptyQueueStepIsOneMicrosecond := by
  intro s hempty
  refine ⟨idle s, by rw [step, hempty], rfl, fun hlt => ?_, fun hlast => ?_, rfl⟩
  · have hin : s.clock.timeOfDay.micros.val + 1 < 1000000 := Nat.succ_lt_succ hlt
    have hadd : (idle s).clock.timeOfDay = _ := TimeOfDay.add_one_of_lt hin
    rw [hadd]
    exact ⟨rfl, rfl⟩
  · have hadd : (idle s).clock.timeOfDay = _ := TimeOfDay.add_one_of_last hlast
    rw [hadd]
    exact ⟨rfl, rfl⟩

/-! ### A pulse (R94 to R99) -/

/-- The whole second nearest to a time of day (R95). -/
def TimeOfDay.nearest (t : TimeOfDay) : BitVec 32 :=
  if t.micros.val < 500000 then t.seconds else t.seconds + 1

/-- A correction sets the time of day to the nearest whole second (R95). -/
theorem TimeOfDay.add_neg_pulseError (t : TimeOfDay) : t.add (-pulseError t) = ⟨t.nearest, 0⟩ := by
  unfold pulseError TimeOfDay.nearest
  split
  · rw [TimeOfDay.add_eq (x := t.seconds.toNat) (m := 0) (by simp), ofInt_toNat_seconds]
  · rw [TimeOfDay.add_eq (x := t.seconds.toNat + 1) (m := 0) (by simp; omega), ofInt_toNat_succ]

theorem correct_eq (c : TimeBase) : c.correct =
    { c with timeOfDay := ⟨c.timeOfDay.nearest, 0⟩, lastCorrection := some (-pulseError c.timeOfDay) } := by
  rw [TimeBase.correct, TimeOfDay.add_neg_pulseError]

theorem withinWindow_eq_true_iff {c : TimeBase} :
    c.withinWindow = true ↔ (pulseError c.timeOfDay).natAbs ≤ c.options.windowUs := by
  simp [TimeBase.withinWindow]

theorem withinWindow_eq_false_iff {c : TimeBase} :
    c.withinWindow = false ↔ ¬(pulseError c.timeOfDay).natAbs ≤ c.options.windowUs := by
  simp [TimeBase.withinWindow]

/-- When an edge is taken as a pulse (R94). -/
theorem takesPulse_iff {c : TimeBase} {edge : SyncEdge} : c.takesPulse edge = true ↔
    c.options.syncEnable = true ∧ edge = c.options.syncEdge ∧ c.quality ≠ .unset ∧
      ∀ u, c.lastPulse = some u → 500000 ≤ (c.uptime - u).toNat := by
  unfold TimeBase.takesPulse
  cases c.lastPulse with
  | none => simp [and_assoc]
  | some u =>
    have hguard : decide (Config.pulseGuardUs ≤ elapsedUs c.uptime u) = true ↔ 500000 ≤ (c.uptime - u).toNat :=
      decide_eq_true_iff
    simp only [Bool.and_eq_true, beq_iff_eq, bne_iff_ne, hguard, and_assoc, Option.some.injEq, forall_eq']

/-- The time base with the pulse noted (R94). -/
def TimeBase.noted (c : TimeBase) : TimeBase := { c with lastPulse := some c.uptime }

theorem pulse_of_free {c : TimeBase} (h : c.quality = .free) : c.pulse = c.noted.freePulse := by
  simp only [TimeBase.pulse, h, TimeBase.noted]

theorem pulse_of_locked {c : TimeBase} (h : c.quality = .locked) : c.pulse = c.noted.lockedPulse := by
  simp only [TimeBase.pulse, h, TimeBase.noted]

theorem pulse_of_holdover {c : TimeBase} (h : c.quality = .holdover) : c.pulse = c.noted.holdoverPulse := by
  simp only [TimeBase.pulse, h, TimeBase.noted]

/-- In FREE and HOLDOVER every pulse corrects (R96, R99). -/
theorem pulseCorrection_of_unlocked {c : TimeBase} (h : c.quality = .free ∨ c.quality = .holdover) :
    c.pulseCorrection = some (-pulseError c.timeOfDay) := by
  rcases h with h | h <;> simp only [TimeBase.pulseCorrection, h]

/-- In LOCKED a pulse corrects unless it is an outlier that is ridden through (R97). -/
theorem pulseCorrection_of_locked {c : TimeBase} (h : c.quality = .locked) : c.pulseCorrection =
    if c.withinWindow = false ∧ c.outlierCount < 2 then none else some (-pulseError c.timeOfDay) := by
  simp [TimeBase.pulseCorrection, h, Config.outliersToFree, Nat.lt_succ_iff]

theorem exec_syncEdge (edge : SyncEdge) (s : State) : exec (.syncEdge edge) s =
    .next (if s.clock.takesPulse edge then takePulse s else s) := rfl

/-! ### Its reports (R90, R95) -/

theorem stepRecorded_eq_false {threshold : Nat} {x : Int} (h : x = 0 ∧ threshold = 0 ∨ x.natAbs < threshold) :
    stepRecorded threshold x = false := by
  unfold stepRecorded
  split <;> simp <;> omega

theorem stepRecorded_eq_true {threshold : Nat} {x : Int} (hne : x ≠ 0) (h : threshold ≤ x.natAbs) :
    stepRecorded threshold x = true := by
  unfold stepRecorded
  split <;> simp [hne, h]

theorem reportStep_some (x : Int) (s : State) : reportStep (some x) s =
    if stepRecorded s.clock.options.stepThresholdUs x then
      offer ⟨.timeStep x, none, ⟨false, false, false, false, false⟩⟩ s
    else s := rfl

theorem reportQuality_same {old : Quality} {s : State} (h : old = s.clock.quality) : reportQuality old s = s :=
  if_pos h

theorem reportQuality_of_ne {old : Quality} {s t : State} (h : old ≠ s.clock.quality)
    (ht : offer ⟨.qualityChange old s.clock.quality, none, ⟨false, false, false, false, false⟩⟩ s = t) :
    reportQuality old s = if old = .locked then raise .timeDegraded .none t else t :=
  ht ▸ if_neg h

/-- Settles O44: a pulse by the quality in force, then the two reports. -/
theorem pulseMovesTimeBase : Obligations.PulseMovesTimeBase := by
  refine ⟨fun edge s => ⟨fun hno => ?_, fun hpulse => ?_⟩, fun s => ⟨rfl, fun x => ⟨fun h => ?_, fun hne h => ?_⟩,
    fun old => ⟨reportQuality_same, fun hne hold => ?_, fun hne hold => ?_⟩⟩⟩
  · rw [exec_syncEdge, if_neg (mt takesPulse_iff.1 hno)]
  · have hin : (pulseError s.clock.timeOfDay).natAbs ≤ s.clock.options.windowUs → s.clock.noted.withinWindow = true :=
      withinWindow_eq_true_iff.2
    have hout : ¬(pulseError s.clock.timeOfDay).natAbs ≤ s.clock.options.windowUs →
        s.clock.noted.withinWindow = false := withinWindow_eq_false_iff.2
    refine ⟨s.clock.pulse, s.clock.pulseCorrection, ?_, fun hq => ?_, fun hq => ?_, fun hq => ?_⟩
    · rw [exec_syncEdge, if_pos (takesPulse_iff.2 hpulse)]
      rfl
    · rw [pulse_of_free hq]
      refine ⟨pulseCorrection_of_unlocked (.inl hq), fun hbad => ?_, fun hgood hfew => ?_, fun hgood hthird => ?_⟩
      · rw [freePulse_of_outside (hout hbad), correct_eq]
        rfl
      · rw [freePulse_of_few (hin hgood) hfew, correct_eq]
        rfl
      · rw [freePulse_of_third (hin hgood) hthird, correct_eq]
        rfl
    · rw [pulse_of_locked hq, pulseCorrection_of_locked hq]
      refine ⟨fun hgood => ⟨if_neg ?_, ?_⟩, fun hbad hfew => ⟨if_pos ?_, ?_⟩, fun hbad hthird => ⟨if_neg ?_, ?_⟩⟩
      · rw [withinWindow_eq_false_iff]
        exact fun h => h.1 hgood
      · rw [lockedPulse_of_within (hin hgood), correct_eq]
        rfl
      · exact ⟨withinWindow_eq_false_iff.2 hbad, hfew⟩
      · rw [lockedPulse_of_few (hout hbad) hfew]
        rfl
      · exact fun h => Nat.not_lt_of_le hthird h.2
      · rw [lockedPulse_of_third (hout hbad) hthird, correct_eq]
        rfl
    · rw [pulse_of_holdover hq]
      refine ⟨pulseCorrection_of_unlocked (.inr hq), fun hgood => ?_, fun hbad => ?_⟩
      · rw [holdoverPulse_of_within (hin hgood), correct_eq]
        rfl
      · rw [holdoverPulse_of_outside (hout hbad), correct_eq]
        rfl
  · rw [reportStep_some, stepRecorded_eq_false h]
    rfl
  · rw [reportStep_some, stepRecorded_eq_true hne h]
    rfl
  · exact (reportQuality_of_ne hne rfl).trans (if_neg hold)
  · exact (reportQuality_of_ne hne rfl).trans (if_pos hold)

/-! ### The two timers (R98, R99) -/

theorem exec_missingPulseTimerExpiry (s : State) : exec .missingPulseTimerExpiry s =
    .next (if s.clock.quality == .locked && expired s.clock.uptime s.clock.missingPulse then
      reportQuality s.clock.quality { s with clock := s.clock.coast } else s) := rfl

theorem exec_holdoverTimerExpiry (s : State) : exec .holdoverTimerExpiry s =
    .next (reportQuality s.clock.quality { s with clock := s.clock.expireHoldover }) := rfl

/-- Settles O45: each timer by whether it is due in its quality. -/
theorem timeTimersExpire : Obligations.TimeTimersExpire := by
  refine fun s => ⟨fun d hd hq hdue => ?_, fun hno => ?_, fun h hh hq hdue => ?_, fun hno => ?_⟩
  · rw [exec_missingPulseTimerExpiry, hq, expired_of_some hd hdue]
    rfl
  · rw [exec_missingPulseTimerExpiry, if_neg]
    rw [Bool.and_eq_true, beq_iff_eq]
    rintro ⟨hq, hdue⟩
    rcases hno with hne | hearly
    · exact hne hq
    · exact absurd (hdue.symm.trans (expired_eq_false_iff.2 hearly)) nofun
  · rw [exec_holdoverTimerExpiry, hq, expireHoldover_of_due hq hh hdue]
  · have hkept : s.clock.expireHoldover = s.clock :=
      expireHoldover_of_not_due fun hq => hno.resolve_left fun hne => hne hq
    rw [exec_holdoverTimerExpiry, hkept, reportQuality_same rfl]

end Sys2Proof.Machine
end

section
/-!
PROOFS. O46: SET_TIME and SET_TIME_OPTIONS, from the bytes of the request to the time base they leave (R91 to R93, R99).
Its proofs are checked one after another (Elab.async off), within the memory of one.
-/
namespace Sys2Proof.Machine
set_option Elab.async false

/-! ### The time of a SET_TIME (R91, R170) -/

theorem foldl_beBytes (n v a : Nat) :
    (beBytes n v).foldl (fun x b => x * 256 + b.toNat) a = a * 256 ^ n + v % 256 ^ n := by
  induction n generalizing a with
  | zero => simp [beBytes, Nat.mod_one]
  | succ n ih =>
    rw [beBytes, List.foldl_cons, ih, Nat.pow_succ, Nat.mod_mul, BitVec.toNat_ofNat]
    ring

/-- Big-endian bytes spell the number they were made of, modulo what they can hold (R170). -/
theorem ofBytes_beBytes (n v : Nat) : ofBytes (beBytes n v) = v % 256 ^ n := by
  rw [ofBytes, foldl_beBytes, Nat.zero_mul, Nat.zero_add]

/-- The bytes of a time of day name it, unless the microseconds are no microseconds of a second (R91). -/
theorem timeOfDayOf_beBytes (seconds : BitVec 32) (micros : BitVec 24) :
    timeOfDayOf (beBytes 4 seconds.toNat ++ beBytes 3 micros.toNat) =
      (finOf 1000000 micros.toNat).map fun m => ⟨seconds, m⟩ := by
  have hseconds : fieldInt (beBytes 4 seconds.toNat ++ beBytes 3 micros.toNat) 0 4 = seconds.toNat := by
    rw [fieldInt, List.drop_zero, List.take_left' (length_beBytes 4 _), ofBytes_beBytes]
    exact Nat.mod_eq_of_lt seconds.isLt
  have hmicros : fieldInt (beBytes 4 seconds.toNat ++ beBytes 3 micros.toNat) 4 3 = micros.toNat := by
    rw [fieldInt, List.drop_left' (length_beBytes 4 _), List.take_of_length_le (length_beBytes 3 _).le, ofBytes_beBytes]
    exact Nat.mod_eq_of_lt micros.isLt
  rw [timeOfDayOf, hseconds, hmicros, BitVec.ofNat_toNat, BitVec.setWidth_eq]
  cases finOf 1000000 micros.toNat <;> rfl

/-- SET_TIME past the claim (R91). -/
def setNamedTime (bs : List Byte) (s : State) : Answer :=
  match timeOfDayOf bs with
  | none => refuse .badValue s
  | some t => (setTimeTo t s, .ok, .none)

theorem setNamedTime_of_none {bs : List Byte} (h : timeOfDayOf bs = none) (s : State) :
    setNamedTime bs s = refuse .badValue s := by
  simp only [setNamedTime, h]

theorem setNamedTime_of_some {bs : List Byte} {t : TimeOfDay} (h : timeOfDayOf bs = some t) (s : State) :
    setNamedTime bs s = (setTimeTo t s, .ok, .none) := by
  simp only [setNamedTime, h]

/-- SET_TIME from the claimant is carried out and answered (R91, R157). -/
theorem exec_setTime {p : Port} {s : State} {q : Request} (hready : Ready s p .setTime q)
    (hclaim : s.holdsClaim p = true) {a : Answer} (ha : setNamedTime q.payload (s.putInHand p) = a) :
    exec (.setTime p) s = .next (a.1.replied p q a.2.1 a.2.2) :=
  ha ▸ congrArg Host.Outcome.next (ready_claimed (block := setNamedTime) hready hclaim)

/-! ### The options of a SET_TIME_OPTIONS (R92, R93) -/

/-- SET_TIME_OPTIONS past the claim (R92). -/
def setNamedOptions (bs : List Byte) (s : State) : Answer :=
  match timeOptionsOf bs with
  | none => refuse .badValue s
  | some o =>
    if o.syncEnable && !s.clock.options.syncEnable && s.rules.line31Captures then refuse .syncConflict s
    else (writeOptions o s, .ok, .none)

/-- SET_TIME_OPTIONS from the claimant is carried out and answered (R92, R157). -/
theorem exec_setTimeOptions {p : Port} {s : State} {q : Request} (hready : Ready s p .setTimeOptions q)
    (hclaim : s.holdsClaim p = true) {a : Answer} (ha : setNamedOptions q.payload (s.putInHand p) = a) :
    exec (.setTimeOptions p) s = .next (a.1.replied p q a.2.1 a.2.2) :=
  ha ▸ congrArg Host.Outcome.next (ready_claimed (block := setNamedOptions) hready hclaim)

/-- SYNC is turned on while line 31 is in CAPTURE in a bank (R92). -/
def State.Conflicts (s : State) (o : TimeOptions) : Prop :=
  o.syncEnable = true ∧ s.clock.options.syncEnable = false ∧
    (s.rules.active.lines[31].mode = .capture ∨ s.rules.staged.lines[31].mode = .capture)

theorem setNamedOptions_of_none {bs : List Byte} (h : timeOptionsOf bs = none) (s : State) :
    setNamedOptions bs s = refuse .badValue s := by
  simp only [setNamedOptions, h]

theorem setNamedOptions_of_some {bs : List Byte} {o : TimeOptions} {s : State} (ho : timeOptionsOf bs = some o) :
    (s.Conflicts o → setNamedOptions bs s = refuse .syncConflict s) ∧
      (¬ s.Conflicts o → setNamedOptions bs s = (writeOptions o s, .ok, .none)) := by
  have hconflict : (o.syncEnable && !s.clock.options.syncEnable && s.rules.line31Captures) = true ↔ s.Conflicts o := by
    simp [State.Conflicts, RuleStore.line31Captures, and_assoc]
  simp only [setNamedOptions, ho]
  exact ⟨fun h => if_pos (hconflict.2 h), fun h => if_neg (mt hconflict.1 h)⟩

/-- SYNC as it was written again (R93). -/
theorem switchSync_same (on : Bool) (c : TimeBase) : c.switchSync on on = c := by
  cases on <;> rfl

/-- The quality once SYNC is off: FREE, unless UNSET (R93). -/
theorem syncOff_eq (q : Quality) : q.syncOff = if q = .unset then .unset else .free := by
  cases q <;> rfl

/-- The time base under new options, before SYNC is switched, by whether HOLDOVER lapses (R93, R99). -/
theorem limitHoldover_eq {o : TimeOptions} {c limited : TimeBase}
    (h : (c.Lapses o ∧ limited = { c with options := o, holdover := none, quality := .free }) ∨
      (¬ c.Lapses o ∧ limited = { c with options := o, holdover := c.newTimer o })) :
    TimeBase.limitHoldover c.options.holdoverLimitS { c with options := o } = limited ∧
      limited.quality.syncOff = if c.quality = .unset then .unset else .free := by
  rcases h with ⟨hlapses, rfl⟩ | ⟨hkept, rfl⟩
  · exact ⟨limitHoldover_of_lapses hlapses, by rw [hlapses.2.1]; rfl⟩
  · exact ⟨limitHoldover_of_not_lapses hkept, syncOff_eq c.quality⟩

/-- Settles O46: each request by what its bytes name, and the options by what they make of a running HOLDOVER. -/
theorem timeAndOptionsAreSet : Obligations.TimeAndOptionsAreSet := by
  refine ⟨fun p s q seconds micros hready hclaim hq => ⟨fun hbad => ?_, fun m hm => ?_⟩,
    fun p s q hready hclaim => ⟨fun hnone => ?_, fun o ho => ⟨fun hconflict => ?_, fun hfree => ?_⟩⟩⟩
  · have hnone : timeOfDayOf q.payload = none := by
      rw [hq, timeOfDayOf_beBytes, finOf, dif_neg (Nat.not_lt_of_le hbad), Option.map_none]
    exact exec_setTime hready hclaim (setNamedTime_of_none hnone _)
  · have hsome : timeOfDayOf q.payload = some ⟨seconds, m⟩ := by
      rw [hq, timeOfDayOf_beBytes, ← hm, finOf, dif_pos m.isLt, Option.map_some]
    exact exec_setTime hready hclaim (setNamedTime_of_some hsome _)
  · exact exec_setTimeOptions hready hclaim (setNamedOptions_of_none hnone _)
  · exact exec_setTimeOptions hready hclaim ((setNamedOptions_of_some ho).1 hconflict)
  · refine ⟨s.clock.setOptions o, ?_, fun limited hlimited => ?_⟩
    · rw [exec_setTimeOptions hready hclaim ((setNamedOptions_of_some ho).2 hfree)]
      unfold writeOptions
      rw [State.putInHand_switch]
      cases s.switch.phase <;> rfl
    · obtain ⟨heq, hquality⟩ := limitHoldover_eq hlimited
      unfold TimeBase.setOptions
      rw [heq]
      refine ⟨fun hsame => ?_, fun hwas hnow => ?_, fun hwas hnow => ?_⟩
      · rw [hsame, switchSync_same]
      · rw [hwas, hnow]
        rfl
      · rw [hwas, hnow, TimeBase.switchSync, TimeBase.syncOff, hquality]

end Sys2Proof.Machine
end

section
/-!
PROOFS. O48: the field blocks of Table 10-3 and back (R170). A block of its length is read as an entry exactly when the
entry is in range and the block is its bytes, from the same statement about each field. Its proofs are
checked one after another (Elab.async off), within the memory of one.
-/
namespace Sys2Proof.Machine
set_option Elab.async false

/-! ### Integers and their bytes (R170) -/

/-- The number that `a` and then bytes spell, without those bytes. -/
theorem foldl_div (bs : List Byte) (a : Nat) :
    bs.foldl (fun n b => n * 256 + b.toNat) a / 256 ^ bs.length = a := by
  induction bs generalizing a with
  | nil => simp
  | cons b bs ih =>
    rw [List.foldl_cons, List.length_cons, Nat.pow_succ, ← Nat.div_div_eq_div_mul, ih]
    have := b.isLt
    omega

/-- Each byte is the low byte of the number spelt up to it (R170). -/
theorem beBytes_foldl (bs : List Byte) (a : Nat) :
    beBytes bs.length (bs.foldl (fun n b => n * 256 + b.toNat) a) = bs := by
  induction bs generalizing a with
  | nil => rfl
  | cons b bs ih =>
    have hhead : BitVec.ofNat 8 (a * 256 + b.toNat) = b :=
      BitVec.eq_of_toNat_eq (by rw [BitVec.toNat_ofNat]; have := b.isLt; omega)
    rw [List.foldl_cons, List.length_cons, beBytes, foldl_div, ih, hhead]

theorem ofBytes_lt {bs : List Byte} {n : Nat} (hn : bs.length = n) : ofBytes bs < 256 ^ n :=
  (Nat.div_eq_zero_iff_lt (Nat.pow_pos (by decide))).1 (hn ▸ foldl_div bs 0)

/-- A number that fits its bytes is the one they spell, and they are its bytes (R170). -/
theorem ofBytes_eq_iff {bs : List Byte} {n v : Nat} (hn : bs.length = n) (hv : v < 256 ^ n) :
    ofBytes bs = v ↔ beBytes n v = bs := by
  constructor
  · rintro rfl
    exact hn ▸ beBytes_foldl bs 0
  · rintro rfl
    rw [ofBytes_beBytes, Nat.mod_eq_of_lt hv]

/-- Bytes in two parts, the first of a known length. -/
theorem append_eq_iff {xs ys bs : List Byte} {n : Nat} (hn : xs.length = n) :
    xs ++ ys = bs ↔ xs = bs.take n ∧ ys = bs.drop n := by
  constructor
  · rintro rfl
    exact ⟨(List.take_left' hn).symm, (List.drop_left' hn).symm⟩
  · rintro ⟨hx, hy⟩
    rw [hx, hy, List.take_append_drop]

/-! ### Fields in range -/

theorem within_eq_some_iff {lo hi n m : Nat} : within lo hi n = some m ↔ n = m ∧ lo ≤ m ∧ m ≤ hi := by
  unfold within
  split
  · next hn => exact ⟨fun h => Option.some.inj h ▸ ⟨rfl, hn⟩, fun h => congrArg some h.1⟩
  · next hn => exact ⟨nofun, fun ⟨hm, hr⟩ => absurd (hm ▸ hr) hn⟩

/-- A field whose value is 0 or in a range. -/
theorem zeroOrWithin_eq_some_iff {lo hi n m : Nat} :
    (if n = 0 then some 0 else within lo hi n) = some m ↔ n = m ∧ (m = 0 ∨ lo ≤ m ∧ m ≤ hi) := by
  split
  · next hn =>
    subst hn
    exact ⟨fun h => ⟨Option.some.inj h, .inl (Option.some.inj h).symm⟩, fun h => congrArg some h.1⟩
  · next hn =>
    rw [within_eq_some_iff]
    exact ⟨fun h => ⟨h.1, .inr h.2⟩, fun ⟨hm, h⟩ => ⟨hm, h.resolve_left (hm ▸ hn)⟩⟩

theorem finOf_eq_some_iff {n v : Nat} {i : Fin n} : finOf n v = some i ↔ v = i.val := by
  refine ⟨fun h => ?_, fun h => finOf_val h.symm⟩
  unfold finOf at h
  split at h
  · exact congrArg Fin.val (Option.some.inj h)
  · exact nomatch h

theorem samplePeriodOf_eq_some_iff {n : Nat} {x : SamplePeriod} : samplePeriodOf n = some x ↔ n = x.micros := by
  refine ⟨fun h => ?_, fun h => h ▸ by cases x <;> rfl⟩
  unfold samplePeriodOf at h
  split at h <;> cases h <;> rfl

/-! ### Fields of one byte -/

theorem toNat_eq_iff_byteOf {b : Byte} {v : Nat} (hv : v ≤ 255) : b.toNat = v ↔ byteOf v = b := by
  rw [byteOf, ← BitVec.toNat_inj, BitVec.toNat_ofNat]
  omega

/-- A byte is read as exactly the value whose code it is (Table 10-2). -/
def ReadsCodes {α : Type} (of : Nat → Option α) (code : α → Byte) : Prop :=
  ∀ (b : Byte) (x : α), of b.toNat = some x ↔ code x = b

/-- Codes that are read as their values, when no other number is read. -/
theorem ReadsCodes.intro {α : Type} {of : Nat → Option α} {code : α → Byte}
    (hcode : ∀ x, of (code x).toNat = some x) (hof : ∀ n x, of n = some x → n = (code x).toNat) :
    ReadsCodes of code :=
  fun _ _ => ⟨fun h => BitVec.eq_of_toNat_eq (hof _ _ h).symm, fun h => h ▸ hcode _⟩

theorem readsCodes_bool : ReadsCodes boolOf boolByte := by
  refine .intro (fun x => by cases x <;> rfl) fun n x h => ?_
  unfold boolOf at h
  split at h <;> cases h <;> rfl

theorem readsCodes_mode : ReadsCodes modeOf Mode.code := by
  refine .intro (fun x => by cases x <;> rfl) fun n x h => ?_
  unfold modeOf at h
  split at h <;> cases h <;> rfl

theorem readsCodes_polarity : ReadsCodes polarityOf Polarity.code := by
  refine .intro (fun x => by cases x <;> rfl) fun n x h => ?_
  unfold polarityOf at h
  split at h <;> cases h <;> rfl

theorem readsCodes_edges : ReadsCodes edgesOf Edges.code := by
  refine .intro (fun x => by cases x <;> rfl) fun n x h => ?_
  unfold edgesOf at h
  split at h <;> cases h <;> rfl

theorem readsCodes_role : ReadsCodes roleOf Role.code := by
  refine .intro (fun x => by cases x <;> rfl) fun n x h => ?_
  unfold roleOf at h
  split at h <;> cases h <;> rfl

theorem readsCodes_syncEdge : ReadsCodes syncEdgeOf syncEdgeCode := by
  refine .intro (fun x => by cases x <;> rfl) fun n x h => ?_
  unfold syncEdgeOf at h
  split at h <;> cases h <;> rfl

theorem readsCodes_class : ReadsCodes (finOf 8) (fun cls => byteOf cls.val) := by
  intro b x
  rw [finOf_eq_some_iff, toNat_eq_iff_byteOf (by omega)]

theorem readsCodes_group : ReadsCodes groupOf groupCode := by
  intro b x
  unfold groupOf
  split
  · next hb =>
    have hb : b = 0xFF := BitVec.eq_of_toNat_eq hb
    subst hb
    revert x
    decide
  · next hb =>
    cases x with
    | none => exact ⟨by simp, fun h => absurd (h ▸ rfl) hb⟩
    | some g =>
      rw [Option.map_eq_some_iff]
      simp only [finOf_eq_some_iff, Option.some.injEq, exists_eq_right, groupCode]
      exact toNat_eq_iff_byteOf (by omega)

/-! ### Numbers in range and their bytes -/

theorem within_byte_iff {lo hi m : Nat} (b : Byte) (hhi : hi ≤ 255) :
    within lo hi b.toNat = some m ↔ (lo ≤ m ∧ m ≤ hi) ∧ byteOf m = b := by
  rw [within_eq_some_iff, and_comm, and_congr_right fun h => toNat_eq_iff_byteOf (h.2.trans hhi)]

theorem within_pair_iff {lo hi m : Nat} (x y : Byte) (hhi : hi < 256 ^ 2) :
    within lo hi (ofBytes [x, y]) = some m ↔ (lo ≤ m ∧ m ≤ hi) ∧ beBytes 2 m = [x, y] := by
  rw [within_eq_some_iff, and_comm, and_congr_right fun h => ofBytes_eq_iff (n := 2) rfl (h.2.trans_lt hhi)]

theorem chatterLimitOf_byte_iff {m : Nat} (b : Byte) :
    chatterLimitOf b.toNat = some m ↔ (m = 0 ∨ 2 ≤ m ∧ m ≤ 63) ∧ byteOf m = b := by
  rw [chatterLimitOf, zeroOrWithin_eq_some_iff, and_comm, and_congr_right fun h => toNat_eq_iff_byteOf (by omega)]

theorem maxDurationOf_bytes_iff {m : Nat} {bs : List Byte} (hn : bs.length = 4) :
    maxDurationOf (ofBytes bs) = some m ↔ (m = 0 ∨ 100 ≤ m ∧ m ≤ 600000) ∧ beBytes 4 m = bs := by
  rw [maxDurationOf, zeroOrWithin_eq_some_iff, and_comm, and_congr_right fun h => ofBytes_eq_iff hn (by omega)]

/-! ### The blocks (Table 10-3) -/

/-- A line entry is read field by field (R107). -/
theorem lineRuleOf_eq_some_iff_fields {bs : List Byte} {r : LineRule} : lineRuleOf bs = some r ↔
    modeOf (fieldByte bs 0) = some r.mode ∧ polarityOf (fieldByte bs 1) = some r.polarity ∧
      within 1 255 (fieldByte bs 2) = some r.debounce ∧ chatterLimitOf (fieldByte bs 3) = some r.chatterLimit ∧
      within 10 10000 (fieldInt bs 4 2) = some r.chatterWindowMs ∧
      within 10 60000 (fieldInt bs 6 2) = some r.chatterReleaseMs ∧ edgesOf (fieldByte bs 8) = some r.edges ∧
      finOf 8 (fieldByte bs 9) = some r.cls ∧ boolOf (fieldByte bs 10) = some r.alert ∧
      groupOf (fieldByte bs 11) = some r.group ∧ roleOf (fieldByte bs 12) = some r.role := by
  simp only [lineRuleOf, Option.bind_eq_bind, Option.bind_eq_some_iff, Option.some.injEq]
  constructor
  · rintro ⟨_, h0, _, h1, _, h2, _, h3, _, h4, _, h6, _, h8, _, h9, _, h10, _, h11, _, h12, rfl⟩
    exact ⟨h0, h1, h2, h3, h4, h6, h8, h9, h10, h11, h12⟩
  · rintro ⟨h0, h1, h2, h3, h4, h6, h8, h9, h10, h11, h12⟩
    exact ⟨_, h0, _, h1, _, h2, _, h3, _, h4, _, h6, _, h8, _, h9, _, h10, _, h11, _, h12, rfl⟩

/-- A line entry block is read as an entry exactly when the entry is in range and the block is its bytes (R107). -/
theorem lineRuleOf_eq_some_iff {bs : List Byte} (h : bs.length = 13) {r : LineRule} :
    lineRuleOf bs = some r ↔ r.inRange ∧ lineRuleBytes r = bs := by
  match bs, h with
  | [b0, b1, b2, b3, b4, b5, b6, b7, b8, b9, b10, b11, b12], _ =>
  refine lineRuleOf_eq_some_iff_fields.trans <| Iff.trans (
    (readsCodes_mode b0 _).and <| (readsCodes_polarity b1 _).and <| (within_byte_iff b2 (by decide)).and <|
    (chatterLimitOf_byte_iff b3).and <| (within_pair_iff b4 b5 (by decide)).and <|
    (within_pair_iff b6 b7 (by decide)).and <| (readsCodes_edges b8 _).and <| (readsCodes_class b9 _).and <|
    (readsCodes_bool b10 _).and <| (readsCodes_group b11 _).and <| readsCodes_role b12 _) ?_
  simp only [lineRuleBytes, LineRule.inRange, List.cons_append, List.append_assoc, List.nil_append, List.cons.injEq,
    append_eq_iff (length_beBytes _ _), List.take_succ_cons, List.take_zero, List.drop_succ_cons, List.drop_zero]
  tauto

/-- A group entry is read field by field (R108). -/
theorem groupRuleOf_eq_some_iff_fields {bs : List Byte} {r : GroupRule} : groupRuleOf bs = some r ↔
    within 10 60000 (fieldInt bs 0 2) = some r.settleMs ∧ maxDurationOf (fieldInt bs 2 4) = some r.maxDurationMs ∧
      within 1 255 (fieldByte bs 6) = some r.memberLimit := by
  simp only [groupRuleOf, Option.bind_eq_bind, Option.bind_eq_some_iff, Option.some.injEq]
  constructor
  · rintro ⟨_, h0, _, h2, _, h6, rfl⟩
    exact ⟨h0, h2, h6⟩
  · rintro ⟨h0, h2, h6⟩
    exact ⟨_, h0, _, h2, _, h6, rfl⟩

/-- A group entry block is read as an entry exactly when the entry is in range and the block is its bytes (R108). -/
theorem groupRuleOf_eq_some_iff {bs : List Byte} (h : bs.length = 7) {r : GroupRule} :
    groupRuleOf bs = some r ↔ r.inRange ∧ groupRuleBytes r = bs := by
  match bs, h with
  | [b0, b1, b2, b3, b4, b5, b6], _ =>
  refine groupRuleOf_eq_some_iff_fields.trans <| Iff.trans (
    (within_pair_iff b0 b1 (by decide)).and <| (maxDurationOf_bytes_iff (bs := [b2, b3, b4, b5]) rfl).and <|
    within_byte_iff b6 (by decide)) ?_
  simp only [groupRuleBytes, GroupRule.inRange, List.append_assoc, append_eq_iff (length_beBytes _ _),
    List.cons.injEq, List.take_succ_cons, List.take_zero, List.drop_succ_cons, List.drop_zero]
  tauto

/-- A global entry block is read as a period exactly when it is the period's bytes (R108). -/
theorem writeGlobalRuleOf_eq_some_iff {bs : List Byte} (h : bs.length = 2) {x : SamplePeriod} :
    writeGlobalRuleOf bs = some x ↔ globalRuleBytes x = bs := by
  have hfield : fieldInt bs 0 2 = ofBytes bs := congrArg ofBytes (List.take_of_length_le h.le)
  rw [writeGlobalRuleOf, samplePeriodOf_eq_some_iff, hfield]
  exact ofBytes_eq_iff h (by cases x <;> decide)

/-- Time options are read field by field (R92). -/
theorem timeOptionsOf_eq_some_iff_fields {bs : List Byte} {o : TimeOptions} : timeOptionsOf bs = some o ↔
    boolOf (fieldByte bs 0) = some o.syncEnable ∧ syncEdgeOf (fieldByte bs 1) = some o.syncEdge ∧
      within 10 2000 (fieldInt bs 2 2) = some o.windowUs ∧ within 10 3600 (fieldInt bs 4 2) = some o.holdoverLimitS ∧
      within 0 10000 (fieldInt bs 6 2) = some o.stepThresholdUs := by
  simp only [timeOptionsOf, Option.bind_eq_bind, Option.bind_eq_some_iff, Option.some.injEq]
  constructor
  · rintro ⟨_, h0, _, h1, _, h2, _, h4, _, h6, rfl⟩
    exact ⟨h0, h1, h2, h4, h6⟩
  · rintro ⟨h0, h1, h2, h4, h6⟩
    exact ⟨_, h0, _, h1, _, h2, _, h4, _, h6, rfl⟩

/-- A time options block is read as options exactly when they are in range and the block is their bytes (R92). -/
theorem timeOptionsOf_eq_some_iff {bs : List Byte} (h : bs.length = 8) {o : TimeOptions} :
    timeOptionsOf bs = some o ↔ o.inRange ∧ timeOptionsBytes o = bs := by
  match bs, h with
  | [b0, b1, b2, b3, b4, b5, b6, b7], _ =>
  refine timeOptionsOf_eq_some_iff_fields.trans <| Iff.trans (
    (readsCodes_bool b0 _).and <| (readsCodes_syncEdge b1 _).and <| (within_pair_iff b2 b3 (by decide)).and <|
    (within_pair_iff b4 b5 (by decide)).and <| within_pair_iff b6 b7 (by decide)) ?_
  simp only [timeOptionsBytes, TimeOptions.inRange, Nat.zero_le, true_and, List.cons_append, List.append_assoc,
    List.nil_append, List.cons.injEq, append_eq_iff (length_beBytes _ _), List.take_succ_cons, List.take_zero,
    List.drop_succ_cons, List.drop_zero]
  tauto

/-- A time block is read as a time of day exactly when it is the time's bytes (R91). -/
theorem timeOfDayOf_eq_some_iff {bs : List Byte} (h : bs.length = 7) {t : TimeOfDay} :
    timeOfDayOf bs = some t ↔ timeBytes t = bs := by
  obtain ⟨seconds, micros⟩ := t
  have hmicros : finOf 1000000 (fieldInt bs 4 3) = some micros ↔ beBytes 3 micros.val = bs.drop 4 := by
    rw [finOf_eq_some_iff, fieldInt, List.take_of_length_le (by simp [h])]
    exact ofBytes_eq_iff (by simp [h]) (by omega)
  have hseconds : BitVec.ofNat 32 (fieldInt bs 0 4) = seconds ↔ beBytes 4 seconds.toNat = bs.take 4 := by
    have hlen : (bs.take 4).length = 4 := by simp [h]
    rw [← ofBytes_eq_iff hlen seconds.isLt, ← BitVec.toNat_inj, BitVec.toNat_ofNat, Nat.mod_eq_of_lt]
    · rfl
    · exact ofBytes_lt hlen
  rw [timeBytes, append_eq_iff (length_beBytes _ _), ← hmicros, ← hseconds]
  simp only [timeOfDayOf, Option.bind_eq_bind, Option.bind_eq_some_iff, Option.some.injEq, TimeOfDay.mk.injEq]
  constructor
  · rintro ⟨_, hm, rfl, rfl⟩
    exact ⟨rfl, hm⟩
  · rintro ⟨rfl, hm⟩
    exact ⟨_, hm, rfl, rfl⟩

/-- Settles O48: what is read from a block of its length is the entry in range that the block spells. -/
theorem entriesRoundTrip : Obligations.EntriesRoundTrip := by
  refine ⟨fun r hr => ?_, fun r hr => ?_, fun x => ?_, fun o ho => ?_, fun t => ?_,
    fun bs r h => (lineRuleOf_eq_some_iff h).1, fun bs r h => (groupRuleOf_eq_some_iff h).1,
    fun bs x h => (writeGlobalRuleOf_eq_some_iff h).1, fun bs o h => (timeOptionsOf_eq_some_iff h).1,
    fun bs t h => (timeOfDayOf_eq_some_iff h).1⟩
  · exact (lineRuleOf_eq_some_iff (by simp [lineRuleBytes])).2 ⟨hr, rfl⟩
  · exact (groupRuleOf_eq_some_iff (by simp [groupRuleBytes])).2 ⟨hr, rfl⟩
  · exact (writeGlobalRuleOf_eq_some_iff (length_beBytes _ _)).2 rfl
  · exact (timeOptionsOf_eq_some_iff (by simp [timeOptionsBytes])).2 ⟨ho, rfl⟩
  · exact (timeOfDayOf_eq_some_iff (by simp [timeBytes])).2 rfl

end Sys2Proof.Machine
end

section
/-!
PROOFS. O47: the staged-editing requests (R107 to R109): the entry or bank that the fields name, the switch state, and
the STAGED bank. Its proofs are checked one after another (Elab.async off), within the memory of one.
-/
namespace Sys2Proof.Machine
set_option Elab.async false

/-! ### A staged edit past the claim (R107) -/

/-- A staged-editing request past the claim: the edit that its fields name, if they are in range, and then the switch
state (R107, checks 2 and 3). -/
def editNamed (edit : Option (Bank → Bank)) (s : State) : Answer :=
  match edit with
  | none => refuse .badValue s
  | some e => editStaged e s

theorem writeLineRuleBlock_eq (p : Port) (bs : List Byte) (s : State) : writeLineRuleBlock p bs s =
    withClaim p s (editNamed ((writeLineRuleOf bs).map fun x b => { b with lines := b.lines.set x.1 x.2 }) s) := by
  unfold writeLineRuleBlock
  cases writeLineRuleOf bs <;> rfl

theorem writeGroupRuleBlock_eq (p : Port) (bs : List Byte) (s : State) : writeGroupRuleBlock p bs s =
    withClaim p s (editNamed ((writeGroupRuleOf bs).map fun x b => { b with groups := b.groups.set x.1 x.2 }) s) := by
  unfold writeGroupRuleBlock
  cases writeGroupRuleOf bs <;> rfl

theorem writeGlobalRuleBlock_eq (p : Port) (bs : List Byte) (s : State) : writeGlobalRuleBlock p bs s =
    withClaim p s (editNamed ((writeGlobalRuleOf bs).map fun x b => { b with period := x }) s) := by
  unfold writeGlobalRuleBlock
  cases writeGlobalRuleOf bs <;> rfl

theorem copyActiveBlock_eq (p : Port) (bs : List Byte) (s : State) :
    copyActiveBlock p bs s = withClaim p s (editNamed (some fun _ => s.rules.active) s) := rfl

theorem switchInProgress_eq_true_iff {s : State} : s.switchInProgress = true ↔ s.switch.phase ≠ .idle := by
  simp [State.switchInProgress]

theorem editStaged_idle {s : State} (h : s.switch.phase = .idle) (edit : Bank → Bank) :
    editStaged edit s = ({ s with rules := { s.rules with staged := edit s.rules.staged } }, .ok, .none) :=
  if_neg fun hbusy => switchInProgress_eq_true_iff.1 hbusy h

theorem editStaged_busy {s : State} (h : s.switch.phase ≠ .idle) (edit : Bank → Bank) :
    editStaged edit s = refuse .busy s :=
  if_pos (switchInProgress_eq_true_iff.2 h)

section
variable {c : Instr} {p : Port} {k : RequestKind} {block : List Byte → State → Answer} {s : State} {q : Request}

/-- A staged-editing request from the claimant is carried out and answered (R107, R157). -/
theorem exec_edit (hexec : exec c s = .next (request p k block s)) (hready : Ready s p k q)
    (hclaim : s.holdsClaim p = true) {edit : Option (Bank → Bank)} {a : Answer}
    (hblock : block q.payload (s.putInHand p) = withClaim p (s.putInHand p) (editNamed edit (s.putInHand p)))
    (ha : editNamed edit (s.putInHand p) = a) : exec c s = .next (a.1.replied p q a.2.1 a.2.2) := by
  rw [hexec, request_ready block hready, hblock, withClaim, holdsClaim_putInHand, if_pos hclaim, ha]

/-- Fields out of range are BAD_VALUE (R107, check 2). -/
theorem exec_edit_none (hexec : exec c s = .next (request p k block s)) (hready : Ready s p k q)
    (hclaim : s.holdsClaim p = true)
    (hblock : block q.payload (s.putInHand p) = withClaim p (s.putInHand p) (editNamed none (s.putInHand p))) :
    exec c s = .next ((s.putInHand p).replied p q .badValue .none) :=
  exec_edit hexec hready hclaim hblock rfl

/-- An edit with its fields in range is made with no switch in progress, and else BUSY (R107, check 3). -/
theorem exec_edit_some (hexec : exec c s = .next (request p k block s)) (hready : Ready s p k q)
    (hclaim : s.holdsClaim p = true) {edit : Bank → Bank}
    (hblock : block q.payload (s.putInHand p) = withClaim p (s.putInHand p) (editNamed (some edit) (s.putInHand p))) :
    (s.switch.phase = .idle → exec c s = .next (State.replied
      { s.putInHand p with rules := { s.rules with staged := edit s.rules.staged } } p q .ok .none)) ∧
    (s.switch.phase ≠ .idle → exec c s = .next ((s.putInHand p).replied p q .busy .none)) :=
  ⟨fun h => exec_edit hexec hready hclaim hblock (editStaged_idle (s := s.putInHand p) h edit),
    fun h => exec_edit hexec hready hclaim hblock (editStaged_busy (s := s.putInHand p) h edit)⟩

end

/-! ### The fields of an edit (R107, R108) -/

theorem writeLineRuleOf_cons (b : Byte) (bs : List Byte) : writeLineRuleOf (b :: bs) =
    (finOf 32 b.toNat).bind fun i => (lineRuleOf bs).bind fun r => some (i, r) := rfl

theorem writeGroupRuleOf_cons (b : Byte) (bs : List Byte) : writeGroupRuleOf (b :: bs) =
    (finOf 16 b.toNat).bind fun g => (groupRuleOf bs).bind fun r => some (g, r) := rfl

/-- An entry is not named by an index out of range, nor by fields out of range. -/
theorem named_eq_none {α : Type} {n v : Nat} {rule : Option α} (h : n ≤ v ∨ rule = none) :
    ((finOf n v).bind fun i => rule.bind fun r => some (i, r)) = none := by
  rcases h with hv | rfl
  · rw [finOf_eq_none hv]
    rfl
  · exact Option.bind_fun_none _

theorem named_eq_some {α : Type} {n v : Nat} {i : Fin n} {r : α} (h : i.val = v) :
    ((finOf n v).bind fun i => (some r).bind fun r => some (i, r)) = some (i, r) := by
  rw [finOf_val h]
  rfl

theorem writeGlobalRuleOf_pair (hi lo : Byte) :
    writeGlobalRuleOf [hi, lo] = samplePeriodOf (hi.toNat * 256 + lo.toNat) := by
  simp [writeGlobalRuleOf, fieldInt, ofBytes]

/-- Settles O47: each request by the edit its fields name, and that by the switch state. -/
theorem stagedBankIsEdited : Obligations.StagedBankIsEdited := by
  refine fun p s q hclaim => ⟨fun b bs hready hq => ⟨fun hbad => ?_, fun i r hi hr => ?_⟩,
    fun b bs hready hq => ⟨fun hbad => ?_, fun g r hg hr => ?_⟩,
    fun hi lo hready hq => ⟨fun period hperiod => ?_, fun hnone => ?_⟩, fun hready => ?_⟩
  · refine exec_edit_none rfl hready hclaim ?_
    rw [writeLineRuleBlock_eq, hq, writeLineRuleOf_cons, named_eq_none hbad, Option.map_none]
  · refine exec_edit_some (edit := fun b => { b with lines := b.lines.set i r }) rfl hready hclaim ?_
    rw [writeLineRuleBlock_eq, hq, writeLineRuleOf_cons, hr, named_eq_some hi, Option.map_some]
  · refine exec_edit_none rfl hready hclaim ?_
    rw [writeGroupRuleBlock_eq, hq, writeGroupRuleOf_cons, named_eq_none hbad, Option.map_none]
  · refine exec_edit_some (edit := fun b => { b with groups := b.groups.set g r }) rfl hready hclaim ?_
    rw [writeGroupRuleBlock_eq, hq, writeGroupRuleOf_cons, hr, named_eq_some hg, Option.map_some]
  · refine exec_edit_some (edit := fun b => { b with period := period }) rfl hready hclaim ?_
    rw [writeGlobalRuleBlock_eq, hq, writeGlobalRuleOf_pair, samplePeriodOf_eq_some_iff.2 hperiod, Option.map_some]
  · have hunnamed : samplePeriodOf (hi.toNat * 256 + lo.toNat) = none :=
      Option.eq_none_iff_forall_ne_some.2 fun x hx => hnone x (samplePeriodOf_eq_some_iff.1 hx)
    refine exec_edit_none rfl hready hclaim ?_
    rw [writeGlobalRuleBlock_eq, hq, writeGlobalRuleOf_pair, hunnamed, Option.map_none]
  · exact exec_edit_some rfl hready hclaim (copyActiveBlock_eq p q.payload (s.putInHand p))

end Sys2Proof.Machine
end

section
/-!
PROOFS. O58: the ACTIVE bank and the generation, and during a switch the STAGED bank, as every command but the switch
instant leaves them (R105, R107, R112, R122). Its proofs are checked one after another (Elab.async off), within the
memory of one.
-/
namespace Sys2Proof.Machine
set_option Elab.async false

/-! ### Rules held (R105, R107, R122) -/

/-- The ACTIVE bank and the generation stay, and with a switch in progress the STAGED bank does (R105, R107, R122). -/
structure RulesHeld (s t : State) : Prop where
  active : t.rules.active = s.rules.active
  generation : t.rules.generation = s.rules.generation
  staged : s.switch.phase ≠ .idle → t.rules.staged = s.rules.staged

namespace RulesHeld

theorem of_rules {s t : State} (h : t.rules = s.rules := by simp) : RulesHeld s t :=
  ⟨congrArg _ h, congrArg _ h, fun _ => congrArg _ h⟩

theorem refl (s : State) : RulesHeld s s := .of_rules rfl

/-- Only the banks and the switch controller enter. -/
theorem congr {s s' t t' : State} (h : RulesHeld s t) (hrules : s.rules = s'.rules) (hswitch : s.switch = s'.switch)
    (ht : t'.rules = t.rules) : RulesHeld s' t' := by
  constructor <;> rw [ht, ← hrules]
  · exact h.active
  · exact h.generation
  · exact hswitch ▸ h.staged

/-- What leaves the banks, the incident table and the hand leaves the banks. -/
theorem of_correlation {s t : State} (h : t.correlation = s.correlation) : RulesHeld s t :=
  .of_rules (State.correlation_eq_iff.1 h).1

/-- A block that needs the claim holds the rules, if what it does with the claim does (R165). -/
theorem withClaim {p : Port} {s : State} {a : Answer} (h : RulesHeld s a.1) : RulesHeld s (withClaim p s a).1 := by
  unfold Machine.withClaim
  split
  · exact h
  · exact .refl s

/-- The STAGED bank is written with no switch in progress alone (R107, check 3). -/
theorem editStaged (edit : Bank → Bank) (s : State) : RulesHeld s (editStaged edit s).1 := by
  unfold Machine.editStaged
  split
  · exact .refl s
  · next hidle => exact ⟨rfl, rfl, fun hbusy => absurd (switchInProgress_eq_true_iff.2 hbusy) hidle⟩

/-- A staged-editing request past the claim (R107). -/
theorem editNamed (edit : Option (Bank → Bank)) (s : State) : RulesHeld s (editNamed edit s).1 := by
  cases edit with
  | none => exact .refl s
  | some e => exact .editStaged e s

/-- A request step holds the rules, if its block does on every state (R157). -/
theorem request {s : State} {p : Port} {k : RequestKind} {block : List Byte → State → Answer}
    (hb : ∀ bs t, RulesHeld t (block bs t).1) : RulesHeld s (request p k block s) := by
  rcases request_keeps_or (fun t => (t.rules, t.switch)) (fun _ _ _ => rfl) block with h | ⟨bs, t, ht, h⟩
  · exact .of_rules (congrArg Prod.fst h)
  · exact (hb bs t).congr (congrArg Prod.fst ht) (congrArg Prod.snd ht) (congrArg Prod.fst h)

/-- A request step leaves the rules, if its block leaves banks, incident table and hand (R157). -/
theorem of_block {s : State} {p : Port} {k : RequestKind} {block : List Byte → State → Answer}
    (hb : ∀ bs t, (block bs t).1.correlation = t.correlation) : RulesHeld s (Machine.request p k block s) :=
  .of_correlation (correlation_request hb)

theorem closeIncidentBlock (p : Port) (bs : List Byte) (s : State) : RulesHeld s (closeIncidentBlock p bs s).1 := by
  refine .withClaim ?_
  split
  · exact .refl s
  · split
    · exact .refl s
    · exact .of_rules

/-- CLASSIFIER_TAKE_ENTRY leaves the rules it classifies by (R113). -/
theorem classifierTakeEntry {s t : State} (ht : execClassifierTakeEntry s = .next t) : RulesHeld s t := by
  obtain rfl := Host.Outcome.next.inj ht
  split <;> exact .of_rules

/-! ### Every command but the switch instant -/

/-- Every command but the switch instant and the resets holds the rules. -/
theorem of_exec {c : Instr} {s t : State} (ht : exec c s = .next t) (hswitch : c ≠ .switchInstant)
    (hreset : Instr.mayReset c = false) : RulesHeld s t := by
  cases c
  case classifierTakeEntry => exact .classifierTakeEntry ht
  all_goals obtain rfl := Host.Outcome.next.inj ht
  case powerOnReset | pinReset | restartTimerExpiry | transmitFrameComplete => exact nomatch hreset
  case switchInstant => exact absurd rfl hswitch
  case receiveByte p b stopLow =>
    cases p with
    | a =>
      dsimp only
      split <;> exact .of_rules
    | b => exact .of_rules
  case unknownKindRequest p =>
    exact takeRequest_induct (fun _ h => ⟨h.active, h.generation, h.staged⟩)
      (fun _ _ h => ⟨h.active, h.generation, h.staged⟩) (fun _ _ h => ⟨h.active, h.generation, h.staged⟩)
      (fun _ _ h => h) (.refl s)
  case identify p => exact .of_block fun _ _ => rfl
  case openSession p => exact .of_block (correlation_openBlock p)
  case closeSession p => exact .request fun _ t => .of_rules (t := endSession p t)
  case ping p => exact .of_block fun _ _ => rfl
  case claim p => exact .of_block (correlation_claimBlock p)
  case releaseClaim p => exact .of_block (correlation_releaseBlock p)
  case restart p => exact .of_block (correlation_restartBlock p)
  case readRecords p => exact .of_block correlation_readRecordsBlock
  case getJournalStatus p => exact .of_block fun _ _ => rfl
  case clearJournal p => exact .request fun _ _ => .withClaim .of_rules
  case setJournalMode p => exact .of_block (correlation_setJournalModeBlock p)
  case subscribe p => exact .of_block (correlation_subscribeBlock p)
  case resume p => exact .of_block (correlation_resumeBlock p)
  case unsubscribe p => exact .request fun _ t => .of_rules (t := endReader p t)
  case ack p => exact .of_block (correlation_ackBlock p)
  case dropReader p => exact .of_block (correlation_dropReaderBlock p)
  case listIncidents p => exact .of_block correlation_listIncidentsBlock
  case closeIncident p =>
    split
    · exact .refl s
    · exact .request (.closeIncidentBlock p)
  case getLines p => exact .of_block fun _ _ => rfl
  case takeSnapshot p => exact .of_block (correlation_takeSnapshotBlock p)
  case getTime p => exact .of_block fun _ _ => rfl
  case setTime p => exact .of_block (correlation_setTimeBlock p)
  case setTimeOptions p => exact .of_block (correlation_setTimeOptionsBlock p)
  case readRule p => exact .of_block correlation_readRuleBlock
  case writeLineRule p => exact .request fun bs t => writeLineRuleBlock_eq p bs t ▸ .withClaim (.editNamed _ t)
  case writeGroupRule p => exact .request fun bs t => writeGroupRuleBlock_eq p bs t ▸ .withClaim (.editNamed _ t)
  case writeGlobalRule p => exact .request fun bs t => writeGlobalRuleBlock_eq p bs t ▸ .withClaim (.editNamed _ t)
  case copyActiveToStaged p => exact .request fun bs t => copyActiveBlock_eq p bs t ▸ .withClaim (.editNamed _ t)
  case switchRules p => exact .of_block (correlation_switchRulesBlock p)
  case abortSwitch p => exact .of_block (correlation_abortSwitchBlock p)
  case getSwitchStatus p => exact .of_block fun _ _ => rfl
  case clearAlert p => exact .of_block correlation_clearAlertBlock
  case setSessionOptions p => exact .of_block (correlation_setSessionOptionsBlock p)
  case getExceptions p => exact .of_block fun _ _ => rfl
  case clearException p => exact .of_block correlation_clearExceptionBlock
  case queueRecordsFrame p =>
    dsimp only
    (repeat' split) <;> exact .of_rules rfl
  case selectionEnd | queueGapFrame | chatterWindowExpiry => (repeat' split) <;> exact .of_rules rfl
  case gapTimerExpiry | transmitFrameBegin | sessionTimerExpiry | retransmitTimerExpiry | quietTimerExpiry |
      durationTimerExpiry | sampleInstant | releaseTimerExpiry | heldEntryAdmission | deferredSnapshotBuild |
      syncEdge | missingPulseTimerExpiry | holdoverTimerExpiry | validationCompletion =>
    (repeat' split) <;> exact .of_rules

end RulesHeld

/-- Settles O58: no command but the switch instant and the resets writes more than the STAGED bank, and that with no
switch in progress alone. -/
theorem rulesChangeAtSwitchInstantAlone : Obligations.RulesChangeAtSwitchInstantAlone := by
  intro c s t ht hswitch hreset
  have held := RulesHeld.of_exec ht hswitch hreset
  exact ⟨held.active, held.generation, held.staged⟩

end Sys2Proof.Machine
end

section
/-!
PROOFS. O41, O43: what CLASSIFIER_TAKE_ENTRY with nothing in hand makes of the entry it takes, by its kind (R113 to
R118). Its proofs are checked one after another (Elab.async off), within the memory of one.
-/
namespace Sys2Proof.Machine
set_option Elab.async false

/-! ### The taking of an entry (R113) -/

/-- An idle classifier takes the oldest entry, and held entries are admitted to its place (R78, R113). -/
theorem exec_takeEntry_idle {s : State} {e : FifoEntry} {rest : List FifoEntry} (hs : s.classifier.inHand = none)
    (hf : s.fifo = e :: rest) :
    exec .classifierTakeEntry s = .next (classify e (admitHeld { s with fifo := rest })) := by
  simp only [exec, execClassifierTakeEntry, hs, hf]

theorem classify_change {s : State} {r : RuleStore} (hr : s.rules = r) (e : ChangeEntry) :
    classify (.front (.change e)) s = classifyChange r.active.lines[e.line] e s := by
  subst hr
  rfl

theorem classify_release {s : State} {r : RuleStore} (hr : s.rules = r) (e : ReleaseEntry) :
    classify (.front (.release e)) s = classifyRelease r.active.lines[e.line] e s := by
  subst hr
  rfl

/-- An edges field selects the edge to a level (Table 6-5). -/
theorem selects_iff {edges : Edges} {level : Level} : edges.selects level = true ↔
    edges = .both ∨ (edges = .rising ∧ level = .high) ∨ (edges = .falling ∧ level = .low) := by
  cases edges <;> cases level <;> decide

/-- What a change sets, in a known classifier (R114). -/
theorem setClassified_eq {s : State} {c : Classifier} (hs : s.classifier = c) (x : EdgeInfo) : setClassified x s =
    { s with classifier := { c with levels := putLine c.levels x.line (x.level == .high) } } := by
  subst hs
  rfl

/-! ### The hand after a record (R113) -/

theorem keepInHand_of_nil {s : State} {h : EntryInHand} (hl : h.left = []) : keepInHand (s, h) = s := by
  simp only [keepInHand, hl]

theorem keepInHand_of_ne_nil {s : State} {c : Classifier} {h : EntryInHand} (hs : s.classifier = c)
    (hl : h.left ≠ []) : keepInHand (s, h) = { s with classifier := { c with inHand := some (.entry h) } } := by
  subst hs
  cases hleft : h.left with
  | nil => exact absurd hleft hl
  | cons r rest => simp only [keepInHand, hleft]

theorem calls_eq_decide (rule : LineRule) : rule.calls = decide (rule.group.isSome = true ∧ rule.role ≠ .none) := by
  rw [calls_eq, Bool.decide_and, Bool.decide_eq_true]

theorem chatterOn_left_eq (lockCount : Option Nat) : (lockCount.map RecordToBuild.chatterOn).toList =
    match lockCount with
    | some n => [.chatterOn n]
    | none => [] := by
  cases lockCount <;> rfl

/-! ### A CHANGE entry (R114 to R116) -/

/-- A CHANGE entry as the classifier reads it (R115). -/
def ChangeEntry.edge (e : ChangeEntry) : EdgeInfo := ⟨e.line, e.level, e.stamp, e.uptime, e.wasHeld, false⟩

/-- A selected edge makes its call and its LINE_CHANGE; the close it answered and CHATTER_ON are left (R115, R116). -/
theorem classifyChange_of_selects {rule : LineRule} {e : ChangeEntry} (h : rule.edges.selects e.level = true)
    {s u : State} (hu : setClassified e.edge s = u) : classifyChange rule e s =
      keepInHand (offer (lineChangeOffer rule e.edge (callFor rule e.edge u).2) (callFor rule e.edge u).1,
        ⟨e.edge, rule, ((callFor rule e.edge u).2.closed.map .incidentClose).toList ++
          (e.lockCount.map .chatterOn).toList, rule.calls⟩) := by
  subst hu
  have hrecords : edgeRecords rule e.edge = [.lineChange] := if_pos h
  unfold classifyChange
  dsimp only
  rw [← ChangeEntry.edge, hrecords]
  rfl

/-- An edge that is not selected leaves at most CHATTER_ON to build (R114, R116). -/
theorem classifyChange_of_not_selects {rule : LineRule} {e : ChangeEntry} (h : ¬ rule.edges.selects e.level = true)
    {s u : State} (hu : setClassified e.edge s = u) : classifyChange rule e s =
      carryOn ⟨e.edge, rule, (e.lockCount.map .chatterOn).toList, false⟩ u := by
  subst hu
  have hrecords : edgeRecords rule e.edge = [] := if_neg h
  unfold classifyChange
  dsimp only
  rw [← ChangeEntry.edge, hrecords]
  rfl

/-- CHATTER_ON in a known classifier (R116). -/
theorem buildChatterOn_eq {s : State} {c : Classifier} (hs : s.classifier = c) (h : EntryInHand) (n : Nat) :
    buildChatterOn h n s = { offer ⟨.chatterOn h.edge.line h.edge.level n h.rule.cls, some h.edge.stamp,
        ⟨false, false, false, h.edge.wasHeld, false⟩⟩ s with
      classifier := { c with lockouts := putLine c.lockouts h.edge.line true } } := by
  subst hs
  simp only [buildChatterOn, offer_frame]

/-! ### A RELEASE entry (R117) -/

/-- A RELEASE entry as the classifier reads it (R117). -/
def ReleaseEntry.edge (e : ReleaseEntry) : EdgeInfo := ⟨e.line, e.releaseLevel, e.stamp, e.uptime, e.wasHeld, true⟩

/-- The lockout flag of the line cleared, and CHATTER_OFF, in a known classifier (R117). -/
def chatterOff (rule : LineRule) (e : ReleaseEntry) (c : Classifier) (s : State) : State :=
  offer ⟨.chatterOff e.line e.lockLevel e.releaseLevel rule.cls, some e.stamp,
    ⟨false, false, false, e.wasHeld, false⟩⟩
    { s with classifier := { c with lockouts := putLine c.lockouts e.line false } }

theorem chatterOff_classifier (rule : LineRule) (e : ReleaseEntry) (c : Classifier) (s : State) :
    (chatterOff rule e c s).classifier = { c with lockouts := putLine c.lockouts e.line false } := by
  simp [chatterOff]

/-- A level is the classified one of a line when the line's bit says so (R114). -/
theorem eq_classifierLevel_iff {c : Classifier} {i : LineNo} {level : Level} :
    level = c.level i ↔ c.levels.getLsbD i.val = (level == .high) := by
  unfold Classifier.level
  cases c.levels.getLsbD i.val <;> cases level <;> decide

/-- A RELEASE entry offers CHATTER_OFF; a release level that differs from the classified one is then a change (R117). -/
theorem classifyRelease_eq {s : State} {c : Classifier} (hs : s.classifier = c) (rule : LineRule) (e : ReleaseEntry) :
    classifyRelease rule e s =
      if c.levels.getLsbD e.line.val = (e.releaseLevel == .high) then chatterOff rule e c s
      else keepInHand (setClassified e.edge (chatterOff rule e c s),
        ⟨e.edge, rule, edgeRecords rule e.edge, false⟩) := by
  subst hs
  have hlevels := congrArg Classifier.levels (chatterOff_classifier rule e s.classifier s)
  have hiff : e.releaseLevel = (chatterOff rule e s.classifier s).classifier.level e.line ↔
      s.classifier.levels.getLsbD e.line.val = (e.releaseLevel == .high) := by
    rw [eq_classifierLevel_iff, hlevels]
  rw [← if_congr hiff rfl rfl]
  rfl

/-! ### A SNAPSHOT_MARKER (R118) -/

/-- A marker in a known classifier: its record, or the marker stays in hand (R118). -/
theorem classify_marker {s : State} {c : Classifier} {r : RuleStore} (hs : s.classifier = c) (hr : s.rules = r)
    (p : Port) : classify (.marker p) s =
      if c.awaiting = 0 then buildSnapshot ⟨p, r.active.offSet⟩ s
      else { s with classifier := { c with inHand := some (.marker ⟨p, r.active.offSet⟩) } } := by
  subst hs hr
  rfl

theorem exec_deferredSnapshotBuild (s : State) : exec .deferredSnapshotBuild s =
    .next (match s.classifier.inHand with
      | none | some (.entry _) => s
      | some (.marker m) =>
        if s.classifier.awaiting = 0 then buildSnapshot m { s with classifier := { s.classifier with inHand := none } }
        else s) := rfl

/-! ### The statements -/

/-- Settles O43: a marker taken by whether a line awaits priming, and one in hand by the same. -/
theorem snapshotIsBuiltOrDeferred : Obligations.SnapshotIsBuiltOrDeferred := by
  intro s built
  refine ⟨?_, fun hs hf => ?_, fun p rest hs hf => ?_, fun hwait => ?_, fun m hs hprimed => ?_⟩
  · rintro ⟨m, hs⟩
    simp only [exec, execClassifierTakeEntry, hs]
  · simp only [exec, execClassifierTakeEntry, hs, hf]
  · intro taken
    have hexec := (exec_takeEntry_idle hs hf).trans
      (congrArg _ (classify_marker (c := s.classifier) (r := s.rules) (by simp) (by simp) p))
    refine ⟨s.rules.active.offSet, getLsbD_lineSetOf _, fun hprimed => ?_, fun hwaits => ?_⟩
    · exact hexec.trans (congrArg _ (if_pos hprimed))
    · exact hexec.trans (congrArg _ (if_neg hwaits))
  · rw [exec_deferredSnapshotBuild]
    split
    · rfl
    · rfl
    · next m hs => rw [if_neg (hwait.resolve_left fun hno => hno m hs)]
  · rw [exec_deferredSnapshotBuild, hs]
    exact congrArg _ (if_pos hprimed)

/-- Settles O41: a CHANGE by whether its edge is selected, a RELEASE by whether its level is a change; each then by the
records left to build. -/
theorem lineEntryIsTaken : Obligations.LineEntryIsTaken := by
  refine ⟨fun s e rest hs hf => ?_, fun s e rest hs hf => ?_⟩
  · intro rule taken
    have htaken : taken.classifier = s.classifier := by simp [taken]
    have hexec : exec .classifierTakeEntry s = .next (classifyChange rule e taken) :=
      (exec_takeEntry_idle hs hf).trans (congrArg _ (classify_change (by simp) e))
    refine ⟨_, _, (getLsbD_putLine s.classifier.levels e.line · _),
      getLsbD_putLine_true s.classifier.lockouts e.line, ?_⟩
    intro u selected asks called changed left h
    have hu : setClassified e.edge taken = u := setClassified_eq htaken e.edge
    have hcalled : callFor rule e.edge u = called := callFor_eq rule e.edge u
    have hleft : (called.2.closed.map .incidentClose).toList ++ (e.lockCount.map .chatterOn).toList = left :=
      congrArg₂ (· ++ ·) (closed_left_eq _) (chatterOn_left_eq _)
    have hkept : changed.classifier = u.classifier := by simp [changed, ← hcalled]
    have hbuilt (hsel : selected) : exec .classifierTakeEntry s = .next (keepInHand (changed, h)) := by
      rw [hexec, classifyChange_of_selects (selects_iff.2 hsel) hu, hcalled, hleft, calls_eq_decide]
      rfl
    refine ⟨fun hsel hnil => ?_, fun hsel hne => ?_, fun hsel hlock => ?_, fun n hsel hlock => ?_⟩
    · rw [hbuilt hsel, keepInHand_of_nil hnil]
    · rw [hbuilt hsel, keepInHand_of_ne_nil hkept hne]
    · rw [hexec, classifyChange_of_not_selects (mt selects_iff.1 hsel) hu, hlock]
      rfl
    · rw [hexec, classifyChange_of_not_selects (mt selects_iff.1 hsel) hu, hlock]
      exact congrArg Host.Outcome.next (buildChatterOn_eq rfl _ n)
  · intro rule taken
    have htaken : taken.classifier = s.classifier := by simp [taken]
    have hexec : exec .classifierTakeEntry s = .next (classifyRelease rule e taken) :=
      (exec_takeEntry_idle hs hf).trans (congrArg _ (classify_release (by simp) e))
    rw [classifyRelease_eq htaken] at hexec
    refine ⟨_, _, (getLsbD_putLine s.classifier.lockouts e.line · false),
      (getLsbD_putLine s.classifier.levels e.line · _), ?_⟩
    intro off differs selected h
    have hset : setClassified e.edge off = { off with classifier := { off.classifier with
        levels := putLine s.classifier.levels e.line (e.releaseLevel == .high) } } := by
      have hlevels : off.classifier.levels = s.classifier.levels := by simp [off]
      rw [setClassified_eq rfl, hlevels]
      rfl
    have hchange (hdiff : differs) : exec .classifierTakeEntry s =
        .next (keepInHand (setClassified e.edge off, ⟨e.edge, rule, edgeRecords rule e.edge, false⟩)) :=
      hexec.trans (congrArg _ (if_neg hdiff))
    refine ⟨fun hsame => hexec.trans (congrArg _ (if_pos (not_not.1 hsame))), fun hdiff hsel => ?_,
      fun hdiff hsel => ?_⟩
    · rw [hchange hdiff, hset, keepInHand_of_nil (if_neg (mt selects_iff.1 hsel))]
    · have hrecords : edgeRecords rule e.edge = [.lineChange] := if_pos (selects_iff.2 hsel)
      rw [hchange hdiff, hset, hrecords, keepInHand_of_ne_nil rfl (List.cons_ne_nil _ _)]
      rfl

end Sys2Proof.Machine
end

section
/-!
PROOFS. O49, O50: a switch of the rule set up to its instant: SWITCH_RULES, the walk of validation and its completion,
and ABORT_SWITCH (R123 to R127, R133, R134).
-/
namespace Sys2Proof.Machine

/-! ### The end of a switch before its instant (R126, R133, R134) -/

/-- The session number of a port with an open session. -/
theorem sessionNumber_of_session {s : State} {p : Port} {ses : Session} (h : (s.ports.get p).session = some ses) :
    s.sessionNumber p = some ses.number :=
  congrArg (Option.map Session.number) h

/-- In a state with the requester and the session numbers of `s`, SWITCH_DONE is offered to the requester's port if the
requester's session is open in `s`, and to no port else (R134). -/
theorem offerSwitchDone_by_session {s t : State} (hswitch : t.switch.requester = s.switch.requester)
    (hnumber : ∀ p, t.sessionNumber p = s.sessionNumber p) :
    (∀ h ses, s.switch.requester = some h → (s.ports.get h.port).session = some ses → ses.number = h.session →
      offerSwitchDone t = t.setPort h.port { t.ports.get h.port with
        waiting := (t.ports.get h.port).waiting ++ [.switchDone t.switch.outcome] }) ∧
    ((∀ h ses, s.switch.requester = some h → (s.ports.get h.port).session = some ses → ses.number ≠ h.session) →
      offerSwitchDone t = t) := by
  refine ⟨fun h ses hr hs hnum => ?_, fun hclosed => offerSwitchDone_of_closed fun h hr hopen => ?_⟩
  · have hopen : t.sessionNumber h.port = some h.session := by rw [hnumber, sessionNumber_of_session hs, hnum]
    rw [offerSwitchDone_eq, ports_offerSwitchDone_of_open (hswitch.trans hr) hopen]
    rfl
  · obtain ⟨ses, hs, hnum⟩ := Option.map_eq_some_iff.1 ((hnumber h.port).symm.trans hopen)
    exact hclosed h ses (hswitch.symm.trans hr) hs hnum

/-- A request in hand leaves the session numbers. -/
theorem sessionNumber_putInHand (s : State) (p p' : Port) : (s.putInHand p).sessionNumber p' = s.sessionNumber p' :=
  congrArg (Option.map Session.number) (session_putInHand s p p')

/-! ### SWITCH_RULES and ABORT_SWITCH (R123, R133) -/

/-- SWITCH_RULES past the claim (R123). -/
def beginSwitch (p : Port) (s : State) : Answer :=
  if s.switchInProgress then refuse .busy s
  else ({ s with switch := { s.switch with
      phase := .validating s.clock.options.syncEnable !s.clock.options.syncEnable
      requester := (s.ports.get p).session.map fun ses => ⟨p, ses.number⟩ } }, .accepted, .none)

/-- ABORT_SWITCH past the claim (R133). -/
def abortSwitch (s : State) : Answer :=
  match s.switch.phase with
  | .validating _ _ => (offerSwitchDone (endSwitch .aborted s), .ok, .none)
  | .draining => refuse .tooLate s
  | .idle => refuse .notInProgress s

theorem beginSwitch_busy {p : Port} {s : State} (h : s.switch.phase ≠ .idle) : beginSwitch p s = refuse .busy s :=
  if_pos (switchInProgress_eq_true_iff.2 h)

/-- With no switch in progress one begins VALIDATING, its requester named by the open session (R123). -/
theorem beginSwitch_idle {p : Port} {s : State} {ses : Session} (h : s.switch.phase = .idle)
    (hs : (s.ports.get p).session = some ses) : beginSwitch p s = ({ s with
      switch := ⟨.validating s.clock.options.syncEnable !s.clock.options.syncEnable, some ⟨p, ses.number⟩,
        s.switch.outcome⟩ }, .accepted, .none) := by
  rw [beginSwitch, if_neg fun hbusy => switchInProgress_eq_true_iff.1 hbusy h, hs, Option.map_some]

theorem abortSwitch_idle {s : State} (h : s.switch.phase = .idle) : abortSwitch s = refuse .notInProgress s := by
  rw [abortSwitch, h]

theorem abortSwitch_draining {s : State} (h : s.switch.phase = .draining) : abortSwitch s = refuse .tooLate s := by
  rw [abortSwitch, h]

theorem abortSwitch_validating {s : State} {x y : Bool} (h : s.switch.phase = .validating x y) :
    abortSwitch s = (offerSwitchDone (endSwitch .aborted s), .ok, .none) := by
  rw [abortSwitch, h]

/-- SWITCH_RULES from the claimant is carried out and answered (R123, R157). -/
theorem exec_switchRules {p : Port} {s : State} {q : Request} (hready : Ready s p .switchRules q)
    (hclaim : s.holdsClaim p = true) {a : Answer} (ha : beginSwitch p (s.putInHand p) = a) :
    exec (.switchRules p) s = .next (a.1.replied p q a.2.1 a.2.2) :=
  ha ▸ congrArg Host.Outcome.next (ready_claimed (block := fun _ => beginSwitch p) hready hclaim)

/-- ABORT_SWITCH from the claimant is carried out and answered (R133, R157). -/
theorem exec_abortSwitch {p : Port} {s : State} {q : Request} (hready : Ready s p .abortSwitch q)
    (hclaim : s.holdsClaim p = true) {a : Answer} (ha : abortSwitch (s.putInHand p) = a) :
    exec (.abortSwitch p) s = .next (a.1.replied p q a.2.1 a.2.2) :=
  ha ▸ congrArg Host.Outcome.next (ready_claimed (block := fun _ => abortSwitch) hready hclaim)

/-- Settles O49: each request by the state of the switch, and the abort by whether its requester's session is open. -/
theorem switchIsRequestedAndAborted : Obligations.SwitchIsRequestedAndAborted := by
  intro p s q ses hs hclaim u on
  refine ⟨fun hready => ⟨fun hidle => ?_, fun hbusy => ?_⟩,
    fun hready => ⟨fun hidle => ?_, fun hdraining => ?_, fun x y hvalidating => ?_⟩⟩
  · exact exec_switchRules hready hclaim (beginSwitch_idle hidle ((session_putInHand s p p).trans hs))
  · exact exec_switchRules hready hclaim (beginSwitch_busy hbusy)
  · exact exec_abortSwitch hready hclaim (abortSwitch_idle hidle)
  · exact exec_abortSwitch hready hclaim (abortSwitch_draining hdraining)
  · intro aborted
    have hexec : exec (.abortSwitch p) s = .next ((offerSwitchDone aborted).replied p q .ok .none) :=
      exec_abortSwitch hready hclaim (abortSwitch_validating hvalidating)
    obtain ⟨hopen, hclosed⟩ := offerSwitchDone_by_session (s := s) (t := aborted) rfl (sessionNumber_putInHand s p)
    refine ⟨fun h requester hr hses hnum => ?_, fun hended => ?_⟩
    · rw [hexec, hopen h requester hr hses hnum]
    · rw [hexec, hclosed hended]

/-! ### The walk of validation (R124) -/

/-- A walk in ascending order ends at the first that answers. -/
theorem findSome?_finRange_of_first {n : Nat} {α : Type} {f : Fin n → Option α} {i : Fin n} {a : α}
    (hbelow : ∀ j < i, f j = none) (hi : f i = some a) : (List.finRange n).findSome? f = some a :=
  (Fin.findSome?_eq_findSome?_finRange f).symm.trans (Fin.findSome?_eq_some_iff.2 ⟨i, hi, hbelow⟩)

section
variable {b : Bank} {syncOn : Bool}

/-- The first line that fails a check is what validation finds (R124). -/
theorem validate_of_lineFault {i : LineNo} {r : RejectReason} (hbelow : ∀ j < i, lineFault b syncOn j = none)
    (hi : lineFault b syncOn i = some r) : validate b syncOn = some ⟨.line, i.val, r⟩ := by
  rw [validate, findSome?_finRange_of_first (i := i) (fun j hj => by rw [hbelow j hj, Option.map_none])
    (by rw [hi, Option.map_some])]

/-- With every line in order the groups are walked (R124). -/
theorem validate_of_lines (hlines : ∀ i, lineFault b syncOn i = none) : validate b syncOn =
    (List.finRange 16).findSome? fun g => (groupFault b g).map fun r => ⟨.group, g.val, r⟩ := by
  rw [validate, List.findSome?_eq_none_iff.2 fun i _ => by rw [hlines i, Option.map_none]]

/-- With every line in order the first group that fails a check is what validation finds (R124). -/
theorem validate_of_groupFault (hlines : ∀ i, lineFault b syncOn i = none) {g : GroupNo} {r : RejectReason}
    (hbelow : ∀ j < g, groupFault b j = none) (hg : groupFault b g = some r) :
    validate b syncOn = some ⟨.group, g.val, r⟩ := by
  rw [validate_of_lines hlines, findSome?_finRange_of_first (i := g) (fun j hj => by rw [hbelow j hj, Option.map_none])
    (by rw [hg, Option.map_some])]

/-- With every line and every group in order validation finds nothing (R124). -/
theorem validate_of_no_fault (hlines : ∀ i, lineFault b syncOn i = none) (hgroups : ∀ g, groupFault b g = none) :
    validate b syncOn = none := by
  rw [validate_of_lines hlines, List.findSome?_eq_none_iff.2 fun g _ => by rw [hgroups g, Option.map_none]]

end

/-! ### The checks of Table 7-3 (R125) -/

/-- A line with a role names no group (Table 7-3). -/
def Bank.Unrouted (b : Bank) (i : LineNo) : Prop := b.lines[i].role ≠ .none ∧ b.lines[i].group = none

/-- Line 31 is in CAPTURE with SYNC on (Table 7-3). -/
def Bank.SyncConflicts (b : Bank) (syncOn : Bool) (i : LineNo) : Prop :=
  i = 31 ∧ b.lines[i].mode = .capture ∧ syncOn = true

/-- The chatter limit cannot be reached within the window (Table 7-3). -/
def Bank.ChatterUnreachable (b : Bank) (i : LineNo) : Prop :=
  2 ≤ b.lines[i].chatterLimit ∧
    b.lines[i].chatterWindowMs * 1000 < b.lines[i].chatterLimit * b.lines[i].debounce * b.period.micros

/-- Some line names the group (R125). -/
def Bank.Names (b : Bank) (g : GroupNo) : Prop := ∃ i : LineNo, b.lines[i].group = some g

/-- Lines join or close the group, and none opens it (Table 7-3). -/
def Bank.NeverOpens (b : Bank) (g : GroupNo) : Prop :=
  (∃ i : LineNo, b.lines[i].group = some g ∧ (b.lines[i].role = .joinOnly ∨ b.lines[i].role = .close)) ∧
    ¬∃ i : LineNo, b.lines[i].group = some g ∧ b.lines[i].role = .openOrJoin

/-- The group's maximum duration is below its settle time (Table 7-3). -/
def Bank.DurationTooShort (b : Bank) (g : GroupNo) : Prop :=
  b.groups[g].maxDurationMs ≠ 0 ∧ b.groups[g].maxDurationMs < b.groups[g].settleMs

section
variable {b : Bank} {syncOn : Bool} {i : LineNo}

theorem lineFault_of_unrouted (h : b.Unrouted i) : lineFault b syncOn i = some .roleWithoutGroup := if_pos h

theorem lineFault_of_conflicts (hrouted : ¬b.Unrouted i) (h : b.SyncConflicts syncOn i) :
    lineFault b syncOn i = some .syncConflict :=
  (if_neg hrouted).trans (if_pos h)

theorem lineFault_of_unreachable (hrouted : ¬b.Unrouted i) (hsync : ¬b.SyncConflicts syncOn i)
    (h : b.ChatterUnreachable i) : lineFault b syncOn i = some .chatterUnreachable :=
  (if_neg hrouted).trans ((if_neg hsync).trans (if_pos h))

/-- A line that passes the three checks has no fault (Table 7-3). -/
theorem lineFault_of_ok (h : ¬b.Unrouted i ∧ ¬b.SyncConflicts syncOn i ∧ ¬b.ChatterUnreachable i) :
    lineFault b syncOn i = none := by
  obtain ⟨hrouted, hsync, hreachable⟩ := h
  exact (if_neg hrouted).trans ((if_neg hsync).trans (if_neg hreachable))

end

theorem Bank.groupHas_iff {b : Bank} {g : GroupNo} {f : Role → Bool} :
    b.groupHas g f = true ↔ ∃ i : LineNo, b.lines[i].group = some g ∧ f b.lines[i].role = true := by
  simp [Bank.groupHas]

theorem Bank.groupHas_any_iff {b : Bank} {g : GroupNo} : b.groupHas g (fun _ => true) = true ↔ b.Names g := by
  simp [Bank.groupHas_iff, Bank.Names]

/-- The first check of a group as the model decides it (Table 7-3). -/
theorem Bank.groupHas_neverOpens_iff {b : Bank} {g : GroupNo} :
    (b.groupHas g (fun r => r == .joinOnly || r == .close) = true ∧ ¬b.groupHas g (fun r => r == .openOrJoin) = true) ↔
      b.NeverOpens g := by
  simp only [Bank.groupHas_iff, Bank.NeverOpens, Bool.or_eq_true, beq_iff_eq]

section
variable {b : Bank} {g : GroupNo}

/-- The checks of a group that a line names, in the table's order (R125, Table 7-3). -/
theorem groupFault_of_named (h : b.Names g) : groupFault b g =
    if b.groupHas g (fun r => r == .joinOnly || r == .close) ∧ ¬b.groupHas g (fun r => r == .openOrJoin) then
      some .groupNeverOpens
    else if b.groups[g].maxDurationMs ≠ 0 ∧ b.groups[g].maxDurationMs < b.groups[g].settleMs then
      some .durationBelowSettle
    else none :=
  if_pos (Bank.groupHas_any_iff.2 h)

theorem groupFault_of_neverOpens (hnamed : b.Names g) (h : b.NeverOpens g) :
    groupFault b g = some .groupNeverOpens :=
  (groupFault_of_named hnamed).trans (if_pos (Bank.groupHas_neverOpens_iff.2 h))

theorem groupFault_of_tooShort (hnamed : b.Names g) (hopens : ¬b.NeverOpens g) (h : b.DurationTooShort g) :
    groupFault b g = some .durationBelowSettle :=
  (groupFault_of_named hnamed).trans ((if_neg (mt Bank.groupHas_neverOpens_iff.1 hopens)).trans (if_pos h))

/-- A group that no line names, or that passes the two checks, has no fault (R125). -/
theorem groupFault_of_ok (h : b.Names g → ¬b.NeverOpens g ∧ ¬b.DurationTooShort g) : groupFault b g = none := by
  by_cases hnamed : b.Names g
  · obtain ⟨hopens, hlong⟩ := h hnamed
    exact (groupFault_of_named hnamed).trans
      ((if_neg (mt Bank.groupHas_neverOpens_iff.1 hopens)).trans (if_neg hlong))
  · exact if_neg (mt Bank.groupHas_any_iff.1 hnamed)

end

/-! ### VALIDATION_COMPLETION (R124, R126, R127) -/

/-- The named SYNC value is read if it was in force during the validation, and else the present one (R124, log 12). -/
theorem syncSeen_eq (syncRead on off present : Bool) : syncSeen syncRead on off present =
    if (syncRead = true ∧ on = true) ∨ (syncRead = false ∧ off = true) then syncRead else present := by
  cases syncRead <;> simp [syncSeen]

/-- Outside VALIDATING a completion changes nothing (R124). -/
theorem exec_validationCompletion_of_not_validating {s : State}
    (h : s.switch.phase = .idle ∨ s.switch.phase = .draining) (syncRead : Bool) :
    exec (.validationCompletion syncRead) s = .next s := by
  rcases h with h | h <;> simp only [exec, execValidationCompletion, h]

/-- A rejected switch as it is reported: its exception raised, SWITCH_DONE not yet offered (R126). -/
def rejectedSwitch (r : Rejection) (s : State) : State := raise .switchRejected .none (endSwitch (.rejected r) s)

section
variable {s : State} {on off syncRead : Bool}

/-- A STAGED bank without a fault lets the switch drain (R127). -/
theorem exec_validationCompletion_of_pass (hphase : s.switch.phase = .validating on off)
    (hpass : validate s.rules.staged (syncSeen syncRead on off s.clock.options.syncEnable) = none) :
    exec (.validationCompletion syncRead) s = .next { s with switch := { s.switch with phase := .draining } } := by
  simp only [exec, execValidationCompletion, hphase, hpass]

/-- A STAGED bank with a fault ends the switch REJECTED, and SWITCH_DONE is offered (R126, R134). -/
theorem exec_validationCompletion_of_fault {fault : Rejection} (hphase : s.switch.phase = .validating on off)
    (hfault : validate s.rules.staged (syncSeen syncRead on off s.clock.options.syncEnable) = some fault) :
    exec (.validationCompletion syncRead) s = .next (offerSwitchDone (rejectedSwitch fault s)) := by
  simp only [exec, execValidationCompletion, hphase, hfault, rejectSwitch, rejectedSwitch]

end

theorem rejectedSwitch_switch (r : Rejection) (s : State) :
    (rejectedSwitch r s).switch = ⟨.idle, s.switch.requester, .rejected r⟩ := by
  simp [rejectedSwitch, endSwitch_switch]

theorem sessionNumber_rejectedSwitch (r : Rejection) (s : State) (p : Port) :
    (rejectedSwitch r s).sessionNumber p = s.sessionNumber p := by
  rw [rejectedSwitch, sessionNumber_raise, sessionNumber_of_ports (endSwitch_ports _ s)]

/-- Settles O50: the walk by the first line or group at fault and that by its checks, and the completion by what the
walk finds. -/
theorem validationJudgesStagedBank : Obligations.ValidationJudgesStagedBank := by
  refine ⟨fun b syncOn => ?_, fun syncRead s => ⟨fun h => ?_, fun on off hphase => ?_⟩⟩
  · intro unrouted conflicts unreachable lineOk named neverOpens tooShort groupOk
    have hline {i : LineNo} (h : lineOk i) : lineFault b syncOn i = none := lineFault_of_ok h
    have hgroup {g : GroupNo} (h : groupOk g) : groupFault b g = none := groupFault_of_ok h
    refine ⟨fun i hbelow => ?_, fun hok => ?_⟩
    · have hpassed : ∀ j < i, lineFault b syncOn j = none := fun j hj => hline (hbelow j hj)
      exact ⟨fun h => validate_of_lineFault hpassed (lineFault_of_unrouted h),
        fun hrouted h => validate_of_lineFault hpassed (lineFault_of_conflicts hrouted h),
        fun hrouted hsync h => validate_of_lineFault hpassed (lineFault_of_unreachable hrouted hsync h)⟩
    · have hlines (i : LineNo) : lineFault b syncOn i = none := hline (hok i)
      refine ⟨fun g hbelow hnamed => ?_, fun hgroups => validate_of_no_fault hlines fun g => hgroup (hgroups g)⟩
      have hpassed : ∀ j < g, groupFault b j = none := fun j hj => hgroup (hbelow j hj)
      exact ⟨fun h => validate_of_groupFault hlines hpassed (groupFault_of_neverOpens hnamed h),
        fun hopens h => validate_of_groupFault hlines hpassed (groupFault_of_tooShort hnamed hopens h)⟩
  · exact exec_validationCompletion_of_not_validating h syncRead
  · intro sync
    have hseen : syncSeen syncRead on off s.clock.options.syncEnable = sync := syncSeen_eq ..
    refine ⟨fun hpass => exec_validationCompletion_of_pass hphase (hseen ▸ hpass), fun fault hfault => ?_⟩
    intro t
    have hreject : exec (.validationCompletion syncRead) s = .next (offerSwitchDone t) :=
      exec_validationCompletion_of_fault hphase (hseen ▸ hfault)
    have hswitch : t.switch = ⟨.idle, s.switch.requester, .rejected fault⟩ := rejectedSwitch_switch fault s
    obtain ⟨hopen, hclosed⟩ := offerSwitchDone_by_session (s := s) (t := t) (by rw [hswitch])
      (sessionNumber_rejectedSwitch fault s)
    refine ⟨fun h requester hr hses hnum => ?_, fun hended => ?_⟩
    · rw [hreject, hopen h requester hr hses hnum, hswitch]
    · rw [hreject, hclosed hended]

end Sys2Proof.Machine
end

section
/-!
PROOFS. The exception table and the ports as a raise, an alert and a clear leave them (R138 to R141, R145, R147, R148,
R150): the table a raise leaves, and what each port makes of a NOTICE or ALERT offered and of notices forgotten. Its
proofs are checked one after another (Elab.async off), within the memory of one.
-/
namespace Sys2Proof.Machine
set_option Elab.async false

/-! ### The exception table (R145) -/

theorem getElem_set_exception (v : Vector (Option ExceptionSlot) 8) (i j : SlotNo) (x : Option ExceptionSlot) :
    (v.set i x)[j] = if j = i then x else v[j] := by
  simp [Vector.getElem_set, Fin.ext_iff, eq_comm]

theorem ExceptionTable.isEmpty_eq_true_iff {t : ExceptionTable} :
    t.isEmpty = true ↔ t.overflow = false ∧ ∀ i : SlotNo, t.slots[i] = none := by
  simp [ExceptionTable.isEmpty]

/-- A table with an occupied slot is not empty. -/
theorem ExceptionTable.isEmpty_of_occupied {t : ExceptionTable} {i : SlotNo} {e : ExceptionSlot}
    (h : t.slots[i] = some e) : t.isEmpty = false :=
  Bool.eq_false_iff.2 fun hempty => nomatch ((isEmpty_eq_true_iff.1 hempty).2 i).symm.trans h

theorem ExceptionTable.isEmpty_of_overflow {t : ExceptionTable} (h : t.overflow = true) : t.isEmpty = false :=
  Bool.eq_false_iff.2 fun hempty => nomatch (isEmpty_eq_true_iff.1 hempty).1.symm.trans h

theorem ExceptionTable.slotOf_eq_none {t : ExceptionTable} {kind : ExceptionKind} {subject : ExceptionSubject}
    (h : t.slotOf kind subject = none) {i : SlotNo} {e : ExceptionSlot} (hi : t.slots[i] = some e) :
    e.kind ≠ kind ∨ e.subject ≠ subject := by
  have hslot := List.findSome?_eq_none_iff.1 h i (List.mem_finRange i)
  simp only [hi] at hslot
  by_contra hsame
  push Not at hsame
  exact nomatch (if_pos hsame).symm.trans hslot

theorem ExceptionTable.slotOf_eq_some {t : ExceptionTable} {kind : ExceptionKind} {subject : ExceptionSubject}
    {i : SlotNo} {e : ExceptionSlot} (h : t.slotOf kind subject = some (i, e)) :
    t.slots[i] = some e ∧ e.kind = kind ∧ e.subject = subject := by
  obtain ⟨j, -, hj⟩ := List.exists_of_findSome?_eq_some h
  split at hj
  · next x hx =>
    obtain ⟨hsame, hpair⟩ := Option.ite_none_right_eq_some.1 hj
    obtain ⟨rfl, rfl⟩ := Prod.mk.inj (Option.some.inj hpair)
    exact ⟨hx, hsame⟩
  · exact nomatch hj

theorem ExceptionTable.freeSlot_eq_none {t : ExceptionTable} (h : t.freeSlot = none) (i : SlotNo) :
    t.slots[i] ≠ none := by
  simpa using List.find?_eq_none.1 h i (List.mem_finRange i)

/-- The free slot of lowest number (R145). -/
theorem ExceptionTable.freeSlot_eq_some {t : ExceptionTable} {i : SlotNo} (h : t.freeSlot = some i) :
    t.slots[i] = none ∧ ∀ j : SlotNo, j < i → t.slots[j] ≠ none := by
  obtain ⟨hi, k, hk, hki, hbelow⟩ := List.find?_eq_some_iff_getElem.1 h
  rw [List.getElem_finRange] at hki
  subst hki
  exact ⟨Option.isNone_iff_eq_none.1 hi, fun j hj => Option.isSome_iff_ne_none.1 (by simpa using hbelow j.val hj)⟩

/-- The table that a raise taken at `now` leaves, by the way it is taken (R145). -/
inductive ExceptionTable.Raised (t : ExceptionTable) (now : Uptime) (kind : ExceptionKind)
    (subject : ExceptionSubject) : ExceptionTable → Prop where
  /-- A table in overflow stays. -/
  | closed (h : t.overflow = true) : t.Raised now kind subject t
  /-- The slot of this kind and subject is counted. -/
  | counted (i : SlotNo) (e : ExceptionSlot) (h : t.overflow = false) (hi : t.slots[i] = some e) (hk : e.kind = kind)
      (hs : e.subject = subject) :
      t.Raised now kind subject
        ⟨t.slots.set i (some { e with count := min 65535 (e.count + 1), last := now }), false⟩
  /-- The lowest free slot takes it. -/
  | placed (i : SlotNo) (h : t.overflow = false)
      (hnew : ∀ (j : SlotNo) (e : ExceptionSlot), t.slots[j] = some e → e.kind ≠ kind ∨ e.subject ≠ subject)
      (hi : t.slots[i] = none) (hlow : ∀ j : SlotNo, j < i → t.slots[j] ≠ none) :
      t.Raised now kind subject ⟨t.slots.set i (some ⟨kind, subject, now, now, 1⟩), false⟩
  /-- No slot is free, and the table goes into overflow. -/
  | overflows (h : t.overflow = false)
      (hnew : ∀ (j : SlotNo) (e : ExceptionSlot), t.slots[j] = some e → e.kind ≠ kind ∨ e.subject ≠ subject)
      (hfull : ∀ i : SlotNo, t.slots[i] ≠ none) : t.Raised now kind subject ⟨t.slots, true⟩

theorem ExceptionTable.raised_take (t : ExceptionTable) (now : Uptime) (kind : ExceptionKind)
    (subject : ExceptionSubject) : t.Raised now kind subject (t.take now kind subject) := by
  unfold ExceptionTable.take
  split
  · next hover => exact .closed hover
  · next hover =>
    have hopen : t.overflow = false := Bool.eq_false_iff.2 hover
    split
    · next i e hslot =>
      obtain ⟨hi, hk, hs⟩ := slotOf_eq_some hslot
      rw [hopen]
      exact .counted i e hopen hi hk hs
    · next hnone =>
      split
      · next i hfree =>
        obtain ⟨hi, hlow⟩ := freeSlot_eq_some hfree
        rw [hopen]
        exact .placed i hopen (fun _ _ => slotOf_eq_none hnone) hi hlow
      · next hfull => exact .overflows hopen (fun _ _ => slotOf_eq_none hnone) (freeSlot_eq_none hfull)

/-- After a raise the table is not empty (R145). -/
theorem ExceptionTable.Raised.isEmpty {t u : ExceptionTable} {now : Uptime} {kind : ExceptionKind}
    {subject : ExceptionSubject} (h : t.Raised now kind subject u) : u.isEmpty = false := by
  cases h with
  | closed h => exact ExceptionTable.isEmpty_of_overflow h
  | counted i e => exact ExceptionTable.isEmpty_of_occupied (i := i) (by rw [getElem_set_exception, if_pos rfl])
  | placed i => exact ExceptionTable.isEmpty_of_occupied (i := i) (by rw [getElem_set_exception, if_pos rfl])
  | overflows => exact ExceptionTable.isEmpty_of_overflow rfl

/-- Every occupied slot keeps its kind, its subject and its first uptime. -/
def ExceptionTable.SlotsKept (t u : ExceptionTable) : Prop :=
  ∀ (i : SlotNo) (e : ExceptionSlot), t.slots[i] = some e →
    ∃ e', u.slots[i] = some e' ∧ e'.kind = e.kind ∧ e'.subject = e.subject ∧ e'.first = e.first

theorem ExceptionTable.SlotsKept.refl (t : ExceptionTable) : t.SlotsKept t := fun _ e h => ⟨e, h, rfl, rfl, rfl⟩

theorem ExceptionTable.SlotsKept.trans {t u v : ExceptionTable} (h : t.SlotsKept u) (h' : u.SlotsKept v) :
    t.SlotsKept v := by
  intro i e hi
  obtain ⟨x, hx, hxkind, hxsubject, hxfirst⟩ := h i e hi
  obtain ⟨y, hy, hykind, hysubject, hyfirst⟩ := h' i x hx
  exact ⟨y, hy, hykind.trans hxkind, hysubject.trans hxsubject, hyfirst.trans hxfirst⟩

/-- A slot that is free, or set anew with its kind, subject and first uptime, keeps the slots. -/
theorem ExceptionTable.SlotsKept.set (t : ExceptionTable) (i : SlotNo) (x : ExceptionSlot) (overflow : Bool)
    (h : ∀ e, t.slots[i] = some e → x.kind = e.kind ∧ x.subject = e.subject ∧ x.first = e.first) :
    t.SlotsKept ⟨t.slots.set i (some x), overflow⟩ := by
  intro j e hj
  by_cases hij : j = i
  · subst hij
    exact ⟨x, by rw [getElem_set_exception, if_pos rfl], h e hj⟩
  · exact ⟨e, by rw [getElem_set_exception, if_neg hij, hj], rfl, rfl, rfl⟩

/-- A raise frees no slot and gives none to another exception (R145). -/
theorem ExceptionTable.Raised.slotsKept {t u : ExceptionTable} {now : Uptime} {kind : ExceptionKind}
    {subject : ExceptionSubject} (h : t.Raised now kind subject u) : t.SlotsKept u := by
  cases h with
  | closed h => exact .refl t
  | counted i e h hi =>
    refine .set t i _ _ fun x hx => ?_
    obtain rfl := Option.some.inj (hi.symm.trans hx)
    exact ⟨rfl, rfl, rfl⟩
  | placed i h hnew hi => exact .set t i _ _ fun x hx => nomatch hi.symm.trans hx
  | overflows h hnew hfull => exact .refl t

/-- A slot set anew, in range and alone with its kind and subject, leaves the table in order (R145). -/
theorem ExceptionTable.Ok.set {t : ExceptionTable} (h : t.Ok) (i : SlotNo) {x : ExceptionSlot} (overflow : Bool)
    (hcount : 1 ≤ x.count ∧ x.count ≤ 65535)
    (hnew : ∀ (j : SlotNo) (e : ExceptionSlot), t.slots[j] = some e → e.kind = x.kind → e.subject = x.subject → j = i) :
    ExceptionTable.Ok ⟨t.slots.set i (some x), overflow⟩ := by
  intro j k y z hj hk
  simp only [getElem_set_exception] at hj hk
  split at hj <;> split at hk
  · next hji hki =>
    obtain rfl := Option.some.inj hj
    exact ⟨hcount, fun _ _ => hji.trans hki.symm⟩
  · next hji _ =>
    obtain rfl := Option.some.inj hj
    exact ⟨hcount, fun hkind hsubject => hji.trans (hnew k z hk hkind.symm hsubject.symm).symm⟩
  · next hki =>
    obtain rfl := Option.some.inj hk
    exact ⟨(h j j y y hj hj).1, fun hkind hsubject => (hnew j y hj hkind hsubject).trans hki.symm⟩
  · exact h j k y z hj hk

/-- A raise leaves one slot for each kind and subject, with its count in range (R145). -/
theorem ExceptionTable.Ok.of_raised {t u : ExceptionTable} {now : Uptime} {kind : ExceptionKind}
    {subject : ExceptionSubject} (h : t.Ok) (hraised : t.Raised now kind subject u) : u.Ok := by
  cases hraised with
  | closed => exact h
  | counted i e _ hi =>
    have hcount := (h i i e e hi hi).1
    exact h.set i _ (by dsimp only; omega) fun j x hj hkind hsubject => (h j i x e hj hi).2 hkind hsubject
  | placed i _ hnew =>
    refine h.set i _ (by dsimp only; omega) fun j x hj hkind hsubject => ?_
    rcases hnew j x hj with hother | hother
    · exact absurd hkind hother
    · exact absurd hsubject hother
  | overflows => exact h

/-- A table with fewer slots occupied stays in order (R150). -/
theorem ExceptionTable.Ok.clear {t : ExceptionTable} (h : t.Ok) (which : Option SlotNo) : (t.clear which).Ok := by
  cases which with
  | none => exact fun i _ _ _ hi => nomatch (Vector.getElem_replicate i.isLt).symm.trans hi
  | some i =>
    have hkept {j : SlotNo} {e : ExceptionSlot} (hj : (t.clear (some i)).slots[j] = some e) : t.slots[j] = some e := by
      rw [ExceptionTable.clear, getElem_set_exception] at hj
      exact (Option.ite_none_left_eq_some.1 hj).2
    exact fun j k x y hj hk => h j k x y (hkept hj) (hkept hk)

/-! ### Both ports alike -/

/-- What `f` makes of the value of each port. -/
def PerPort.map {α : Type} (f : α → α) (v : PerPort α) : PerPort α := ⟨f v.a, f v.b⟩

@[simp] theorem PerPort.get_map {α : Type} (f : α → α) (v : PerPort α) (p : Port) : (v.map f).get p = f (v.get p) := by
  cases p <;> rfl

/-! ### A NOTICE or an ALERT offered, and notices forgotten, on one port -/

/-- A port offered a NOTICE of table `t`: its session with notices on has one waiting, one with notices off is marked
(R147, R148). -/
def PortState.noticed (t : ExceptionTable) (x : PortState) : PortState :=
  match x.session with
  | none => x
  | some ses =>
    if ses.notices then
      if x.waiting.any Frame.isNotice then x
      else { x with waiting := x.waiting ++ [.notice t.occupied t.overflow] }
    else { x with session := some { ses with noticePending := true } }

theorem PortState.noticed_of_closed {t : ExceptionTable} {x : PortState} (h : x.session = none) : x.noticed t = x := by
  simp only [PortState.noticed, h]

theorem PortState.noticed_of_open {t : ExceptionTable} {x : PortState} {ses : Session} (h : x.session = some ses) :
    x.noticed t =
      if ses.notices then
        if x.waiting.any Frame.isNotice then x
        else { x with waiting := x.waiting ++ [.notice t.occupied t.overflow] }
      else { x with session := some { ses with noticePending := true } } := by
  simp only [PortState.noticed, h]

/-- A port set to itself changes nothing. -/
theorem setPort_get_self (s : State) (p : Port) : s.setPort p (s.ports.get p) = s := by
  rw [State.setPort, PerPort.set_get_self]

theorem offerNotice_eq_noticed (p : Port) (s : State) :
    offerNotice p s = s.setPort p ((s.ports.get p).noticed s.exceptions) := by
  unfold offerNotice
  split
  · next hs => rw [PortState.noticed_of_closed hs, setPort_get_self]
  · next hs =>
    rw [PortState.noticed_of_open hs]
    unfold queueNotice
    repeat' split
    · exact (setPort_get_self s p).symm
    · rfl
    · rfl

/-- A port whose session wants the alert has an ALERT frame more, the oldest of four withdrawn first and counted
(R140, R141). -/
def PortState.alerted (a : AlertInfo) (x : PortState) : PortState :=
  match x.session with
  | none => x
  | some ses =>
    if ses.alertFrames && ses.threshold ≤ a.cls then
      let full := Config.alertCapacity ≤ (x.waiting.filter Frame.isAlert).length
      let withdrawn := if full then min 255 (ses.withdrawn + 1) else ses.withdrawn
      { x with
        waiting := (if full then eraseFirst Frame.isAlert x.waiting else x.waiting) ++
          [.alert ⟨a.seq, a.line, a.level, a.cls, a.stamp, a.refused, withdrawn⟩]
        session := some { ses with withdrawn := withdrawn } }
    else x

theorem PortState.alerted_of_closed {a : AlertInfo} {x : PortState} (h : x.session = none) : x.alerted a = x := by
  simp only [PortState.alerted, h]

/-- A session with alert frames off, or a threshold above the class, is offered nothing (R140). -/
theorem PortState.alerted_of_unwanted {a : AlertInfo} {x : PortState} {ses : Session} (h : x.session = some ses)
    (hwant : ses.alertFrames = false ∨ a.cls < ses.threshold) : x.alerted a = x := by
  simp only [PortState.alerted, h]
  rw [if_neg]
  rcases hwant with hwant | hwant <;> simp [hwant]

/-- A session that wants the alert is offered it (R140, R141). -/
theorem PortState.alerted_of_wanted {a : AlertInfo} {x : PortState} {ses : Session} (h : x.session = some ses)
    (hon : ses.alertFrames = true) (hthreshold : ses.threshold ≤ a.cls) :
    x.alerted a =
      let full := Config.alertCapacity ≤ (x.waiting.filter Frame.isAlert).length
      let withdrawn := if full then min 255 (ses.withdrawn + 1) else ses.withdrawn
      { x with
        waiting := (if full then eraseFirst Frame.isAlert x.waiting else x.waiting) ++
          [.alert ⟨a.seq, a.line, a.level, a.cls, a.stamp, a.refused, withdrawn⟩]
        session := some { ses with withdrawn := withdrawn } } := by
  simp [PortState.alerted, h, hon, hthreshold]

theorem offerAlert_eq_alerted (p : Port) (a : AlertInfo) (s : State) :
    offerAlert p a s = s.setPort p ((s.ports.get p).alerted a) := by
  unfold offerAlert
  split
  · next hs => rw [PortState.alerted_of_closed hs, setPort_get_self]
  · next hs =>
    split
    · next hwant =>
      obtain ⟨hon, hthreshold⟩ := Bool.and_eq_true_iff.1 hwant
      rw [PortState.alerted_of_wanted hs hon (of_decide_eq_true hthreshold)]
      rfl
    · next hwant =>
      rw [PortState.alerted_of_unwanted hs, setPort_get_self]
      simpa [or_iff_not_imp_left] using hwant

/-- A port whose waiting NOTICE frame is withdrawn and whose session's notice-pending flag is cleared (R150). -/
def PortState.silenced (x : PortState) : PortState :=
  { x with
    waiting := x.waiting.filter fun f => !f.isNotice
    session := x.session.map fun ses => { ses with noticePending := false } }

theorem forgetNotices_eq_silenced (p : Port) (s : State) :
    forgetNotices p s = s.setPort p (s.ports.get p).silenced := by
  unfold forgetNotices PortState.silenced
  cases hs : (s.ports.get p).session with
  | none => simp [hs, State.withdraw, State.setPort]
  | some ses => simp [hs, State.setSession, State.withdraw, State.setPort]

/-! ### Both ports after a raise, an alert and a clear -/

/-- A raise in whole: the table takes it, and when it was empty both ports are offered a NOTICE (R145, R147). -/
theorem raise_eq (kind : ExceptionKind) (subject : ExceptionSubject) (s : State) :
    raise kind subject s =
      let t := s.exceptions.take s.clock.uptime kind subject
      { s with
        exceptions := t
        ports := if s.exceptions.isEmpty then s.ports.map (PortState.noticed t) else s.ports } := by
  unfold raise
  dsimp only
  split
  · rw [offerNotice_eq_noticed, offerNotice_eq_noticed]
    rfl
  · rfl

/-- An alert taken, in whole: the alert unit holds it, and both ports are offered it (R138 to R141). -/
theorem takeAlert_eq (a : AlertInfo) (s : State) :
    takeAlert a s = { s with alert := ⟨true, some a.seq, false, true⟩, ports := s.ports.map (PortState.alerted a) } := by
  rw [takeAlert, offerAlert_eq_alerted, offerAlert_eq_alerted]
  rfl

/-- Notices forgotten on both ports (R150). -/
theorem forgetNotices_both (s : State) :
    forgetNotices .b (forgetNotices .a s) = { s with ports := s.ports.map PortState.silenced } := by
  rw [forgetNotices_eq_silenced, forgetNotices_eq_silenced]
  rfl

end Sys2Proof.Machine
end

section
/-!
PROOFS. What every command but a clear and a reset does to what is reported (R138, R139, R142, R145, R147, R148, R150):
the alert pin and the exception table stay in order, a pending alert stays pending, and an occupied slot keeps its
exception. Its many small proofs are checked one after another (Elab.async off), within the memory of one.
-/
namespace Sys2Proof.Machine
set_option Elab.async false

/-! ### Notices on one port (R147, R148) -/

/-- The notices of one port in order, the exception table being empty or not. -/
structure PortState.NoticesOk (x : PortState) (empty : Bool) : Prop where
  on : ∀ ses, x.session = some ses → ses.notices = true → ses.noticePending = false
  flag : ∀ ses, x.session = some ses → ses.noticePending = true → empty = false
  waiting : ∀ f ∈ x.waiting, f.isNotice = true → empty = false

theorem State.noticesOk_iff {s : State} :
    s.NoticesOk ↔ ∀ p, (s.ports.get p).NoticesOk s.exceptions.isEmpty where
  mp h p := ⟨h.on p, h.flag p, h.waiting p⟩
  mpr h := ⟨fun p => (h p).on, fun p => (h p).flag, fun p => (h p).waiting⟩

/-- From `x` to `y` an open session keeps its notices option and its notice-pending flag, and no NOTICE is queued. -/
structure PortState.NoticesKept (x y : PortState) : Prop where
  session : ∀ ses, y.session = some ses →
    ∃ old, x.session = some old ∧ ses.notices = old.notices ∧ ses.noticePending = old.noticePending
  waiting : ∀ f ∈ y.waiting, f.isNotice = true → f ∈ x.waiting

/-- The session stays, and no NOTICE is queued. -/
theorem PortState.NoticesKept.of_waiting {x y : PortState} (hw : ∀ f ∈ y.waiting, f.isNotice = true → f ∈ x.waiting)
    (hs : y.session = x.session := by rfl) : x.NoticesKept y :=
  ⟨fun ses h => ⟨ses, hs ▸ h, rfl, rfl⟩, hw⟩

/-- The session and the waiting frames stay. -/
theorem PortState.NoticesKept.of_eq {x y : PortState} (hs : y.session = x.session := by rfl)
    (hw : y.waiting = x.waiting := by rfl) : x.NoticesKept y :=
  .of_waiting (fun _ h _ => hw ▸ h) hs

/-- A frame that is no NOTICE joins the queue. -/
theorem mem_of_mem_concat {l : List Frame} {f g : Frame} (hf : f.isNotice = false) (hg : g ∈ l ++ [f])
    (hn : g.isNotice = true) : g ∈ l := by
  rcases List.mem_append.1 hg with h | h
  · exact h
  · rw [List.mem_singleton.1 h, hf] at hn
    exact nomatch hn

theorem PortState.NoticesOk.of_kept {x y : PortState} {empty : Bool} (h : x.NoticesOk empty) (k : x.NoticesKept y) :
    y.NoticesOk empty where
  on ses hs hon := by
    obtain ⟨old, hold, hnotices, hpending⟩ := k.session ses hs
    exact hpending.trans (h.on old hold (hnotices.symm.trans hon))
  flag ses hs hset := by
    obtain ⟨old, hold, -, hpending⟩ := k.session ses hs
    exact h.flag old hold (hpending.symm.trans hset)
  waiting f hf hn := h.waiting f (k.waiting f hf hn) hn

/-- While the table is not empty, only the notice-pending flag of a session with notices on is to be clear. -/
theorem PortState.NoticesOk.of_notEmpty {x : PortState}
    (h : ∀ ses, x.session = some ses → ses.notices = true → ses.noticePending = false) : x.NoticesOk false :=
  ⟨h, fun _ _ _ => rfl, fun _ _ _ => rfl⟩

/-- A NOTICE offered leaves the notice-pending flag clear where notices are on (R147, R148). -/
theorem PortState.NoticesOk.noticed {x : PortState} {empty : Bool} (h : x.NoticesOk empty) (t : ExceptionTable) :
    (x.noticed t).NoticesOk false := by
  refine .of_notEmpty ?_
  cases hs : x.session with
  | none =>
    rw [PortState.noticed_of_closed hs]
    exact h.on
  | some ses =>
    rw [PortState.noticed_of_open hs]
    split
    · split
      · exact h.on
      · exact h.on
    · next hoff =>
      intro new hnew hon
      obtain rfl := Option.some.inj hnew
      exact absurd hon hoff

/-- An ALERT offered touches no notice (R140). -/
theorem PortState.NoticesKept.alerted (a : AlertInfo) (x : PortState) : x.NoticesKept (x.alerted a) := by
  cases hs : x.session with
  | none =>
    rw [PortState.alerted_of_closed hs]
    exact .of_eq
  | some ses =>
    by_cases hwant : ses.alertFrames = true ∧ ses.threshold ≤ a.cls
    · rw [PortState.alerted_of_wanted hs hwant.1 hwant.2]
      refine ⟨fun new hnew => ?_, fun f hf hn => ?_⟩
      · obtain rfl := Option.some.inj hnew
        exact ⟨ses, hs, rfl, rfl⟩
      · have hkept := mem_of_mem_concat rfl hf hn
        split at hkept
        · exact eraseFirst_subset _ _ hkept
        · exact hkept
    · rw [PortState.alerted_of_unwanted hs (by simpa [imp_iff_not_or] using hwant)]
      exact .of_eq

/-- With notices forgotten none waits and no flag is set (R150). -/
theorem PortState.silenced_noticesOk (x : PortState) (empty : Bool) : x.silenced.NoticesOk empty := by
  have hpending {ses : Session} (h : x.silenced.session = some ses) : ses.noticePending = false := by
    obtain ⟨old, -, rfl⟩ := Option.map_eq_some_iff.1 h
    rfl
  refine ⟨fun ses h _ => hpending h, fun ses h hset => (nomatch (hpending h).symm.trans hset), fun f hf hn => ?_⟩
  have hkept := (List.mem_filter.1 hf).2
  rw [hn] at hkept
  exact nomatch hkept

/-! ### What is reported, in order and kept -/

/-- The alert pin, the exception table and both ports' notices are in order (R138, R139, R145, R147, R148). -/
structure State.ReportingOk (s : State) : Prop where
  pin : s.alert.nAlertLow = s.alert.pending
  table : s.exceptions.Ok
  notices : ∀ p, (s.ports.get p).NoticesOk s.exceptions.isEmpty

/-- What a command without a clear or a reset does to what is reported: it stays in order, a pending alert stays pending
(R142), and an occupied slot keeps its exception (R150). -/
structure ReportsKept (s t : State) : Prop where
  ok : s.ReportingOk → t.ReportingOk
  pending : s.alert.pending = true → t.alert.pending = true
  slots : s.exceptions.SlotsKept t.exceptions

namespace ReportsKept

theorem refl (s : State) : ReportsKept s s := ⟨id, id, .refl _⟩

theorem trans {s t u : State} (h : ReportsKept s t) (h' : ReportsKept t u) : ReportsKept s u :=
  ⟨h'.ok ∘ h.ok, h'.pending ∘ h.pending, h.slots.trans h'.slots⟩

theorem foldl {α : Type} {f : State → α → State} (h : ∀ s a, ReportsKept s (f s a)) (l : List α) (s : State) :
    ReportsKept s (l.foldl f s) :=
  List.foldlRecOn (motive := ReportsKept s) _ _ (.refl s) fun t ht a _ => ht.trans (h t a)

/-- What leaves the alert unit, the exception table and the order of each port's notices. -/
theorem of_ports {s t : State} (ha : t.alert = s.alert) (he : t.exceptions = s.exceptions)
    (hp : ∀ p, (s.ports.get p).NoticesOk s.exceptions.isEmpty → (t.ports.get p).NoticesOk s.exceptions.isEmpty) :
    ReportsKept s t where
  ok h := ⟨by rw [ha]; exact h.pin, he ▸ h.table, fun p => by rw [he]; exact hp p (h.notices p)⟩
  pending h := by rw [ha]; exact h
  slots := by rw [he]; exact .refl _

/-- What leaves the alert unit, the exception table and the ports. -/
theorem of_frame {s t : State} (ha : t.alert = s.alert := by simp) (he : t.exceptions = s.exceptions := by simp)
    (hp : t.ports = s.ports := by simp) : ReportsKept s t :=
  .of_ports ha he fun p h => by rw [hp]; exact h

/-- A change of one port that leaves its notices in order. -/
theorem setPort_of_ok {s : State} {p : Port} {x : PortState}
    (hx : (s.ports.get p).NoticesOk s.exceptions.isEmpty → x.NoticesOk s.exceptions.isEmpty) :
    ReportsKept s (s.setPort p x) := by
  refine .of_ports rfl rfl fun q h => ?_
  rw [State.setPort_ports, PerPort.get_set]
  split
  · next hq => exact hx (hq ▸ h)
  · exact h

/-- A change of one port that leaves its notices. -/
theorem setPort {s : State} {p : Port} {x : PortState} (hx : (s.ports.get p).NoticesKept x) :
    ReportsKept s (s.setPort p x) :=
  .setPort_of_ok fun h => h.of_kept hx

/-- Waiting frames are withdrawn. -/
theorem withdraw (s : State) (p : Port) (f : Frame → Bool) : ReportsKept s (s.withdraw p f) :=
  .setPort (.of_waiting fun _ hg _ => (List.mem_filter.1 hg).1)

/-- A frame that is no NOTICE joins the queue. -/
theorem queueFrame (s : State) (p : Port) {f : Frame} (hf : f.isNotice = false) : ReportsKept s (s.queueFrame p f) :=
  .setPort (.of_waiting fun _ => mem_of_mem_concat hf)

/-! ### Exceptions and alerts (R138 to R141, R145, R147) -/

/-- A raise takes the exception, and leaves the notices of both ports in order for a table that is not empty. -/
theorem raise (k : ExceptionKind) (x : ExceptionSubject) (s : State) : ReportsKept s (raise k x s) := by
  have htaken := s.exceptions.raised_take s.clock.uptime k x
  rw [raise_eq]
  refine ⟨fun h => ⟨h.pin, h.table.of_raised htaken, fun p => ?_⟩, id, htaken.slotsKept⟩
  dsimp only
  rw [htaken.isEmpty]
  split
  · rw [PerPort.get_map]
    exact (h.notices p).noticed _
  · exact .of_notEmpty (h.notices p).on

theorem takeAlert (a : AlertInfo) (s : State) : ReportsKept s (takeAlert a s) := by
  rw [takeAlert_eq]
  refine ⟨fun h => ⟨rfl, h.table, fun p => ?_⟩, fun _ => rfl, .refl _⟩
  dsimp only
  rw [PerPort.get_map]
  exact (h.notices p).of_kept (.alerted a _)

theorem handAlert (a : Option AlertInfo) (s : State) : ReportsKept s (handAlert a s) := by
  cases a with
  | none => exact .refl s
  | some a => exact .takeAlert a s

/-- The aging of the latest alert leaves it pending (R142). -/
theorem ageAlert (s : State) : ReportsKept s (ageAlert s) := by
  obtain ⟨aged, haged, -⟩ := ageAlert_eq s
  rw [haged]
  exact ⟨fun h => ⟨h.pin, h.table, h.notices⟩, id, .refl _⟩

/-! ### Readers and the journal -/

theorem setReader (s : State) (p : Port) (r : Option Subscription) : ReportsKept s (s.setReader p r) := .of_frame

theorem withdrawRecords (p : Port) (s : State) : ReportsKept s (withdrawRecords p s) := by
  rw [withdrawRecords_eq]
  exact (ReportsKept.withdraw s p _).trans (.setReader _ p _)

theorem loseRecord (n : Seq) (p : Port) (s : State) : ReportsKept s (loseRecord n p s) := by
  have hwithdrawn := ReportsKept.withdrawRecords p s
  unfold Machine.loseRecord
  split
  · exact .refl s
  · split
    · exact .refl s
    · dsimp only
      split
      · exact hwithdrawn
      · exact (hwithdrawn.trans (.setReader _ p _)).trans (.raise _ _ _)

theorem overwriteOldest (s : State) : ReportsKept s (overwriteOldest s) := by
  unfold Machine.overwriteOldest
  split
  · exact .refl s
  · next rest _ =>
    have hremoved : ReportsKept s { s with journal := { s.journal with held := rest } } := .of_frame
    exact (hremoved.trans (.loseRecord _ .a _)).trans (.loseRecord _ .b _)

theorem acceptRecord (b : RecordBody) (t : Stamp) (f : RecordFlags) (s : State) :
    ReportsKept s (acceptRecord b t f s) := by
  unfold Machine.acceptRecord
  refine ReportsKept.trans ?_ (.ageAlert _)
  exact .of_frame

theorem acceptOffer (o : Offer) (s : State) : ReportsKept s (acceptOffer o s) :=
  (ReportsKept.acceptRecord _ _ _ s).trans (.handAlert _ _)

theorem append (o : Offer) (s : State) : ReportsKept s (append o s).1 := by
  unfold Machine.append
  split
  · dsimp only
    split
    · exact .acceptOffer o s
    · exact (ReportsKept.overwriteOldest s).trans (.acceptOffer o _)
  · split
    · exact .acceptOffer o s
    · split
      · exact ((ReportsKept.acceptRecord _ _ _ s).trans (.raise _ _ _)).trans (.handAlert _ _)
      · refine ReportsKept.trans ?_ (.handAlert _ _)
        exact .of_frame

theorem offer (o : Offer) (s : State) : ReportsKept s (offer o s) := .append o s

theorem endReader (p : Port) (s : State) : ReportsKept s (endReader p s) := by
  unfold Machine.endReader
  split
  · exact .refl s
  · refine (ReportsKept.withdraw s p fun f => f.isRecords || f.isGap).trans ?_
    exact .of_frame

theorem subscribeBlock (p : Port) (bs : List Byte) (s : State) : ReportsKept s (subscribeBlock p bs s).1 := by
  unfold Machine.subscribeBlock
  split
  · exact .refl s
  · split
    · exact .refl s
    · refine (ReportsKept.withdraw s p fun f => f.isRecords || f.isGap).trans ?_
      exact .of_frame (by simp [subscribeReader]) (by simp [subscribeReader]) (by simp [subscribeReader])

theorem resumeBlock (p : Port) (bs : List Byte) (s : State) : ReportsKept s (resumeBlock p bs s).1 := by
  unfold Machine.resumeBlock
  dsimp only
  split
  · exact .refl s
  · exact (ReportsKept.withdrawRecords p s).trans (.setReader _ p _)

theorem ackBlock (p : Port) (bs : List Byte) (s : State) : ReportsKept s (ackBlock p bs s).1 := by
  have hack (r : Subscription) (n : Seq) : ReportsKept s (ackReader p r n s).1 := by
    unfold ackReader
    repeat' split
    all_goals exact .of_frame
  unfold Machine.ackBlock
  split
  · exact .refl s
  · split
    · exact .refl s
    · exact hack _ _
    · exact hack _ _

theorem retransmitExpiry (p : Port) (s : State) : ReportsKept s (retransmitExpiry p s) := by
  have hset (r : Option Subscription) : ReportsKept s ((Machine.withdrawRecords p s).setReader p r) :=
    (ReportsKept.withdrawRecords p s).trans (.setReader _ p r)
  unfold Machine.retransmitExpiry
  dsimp only
  split
  · exact .withdrawRecords p s
  · split
    · exact hset _
    · exact (hset _).trans (.raise _ _ _)

theorem clearJournal (s : State) : ReportsKept s (clearJournal s) := by
  have hwithdrawn := (ReportsKept.withdrawRecords .a s).trans (.withdrawRecords .b _)
  have hemptied (j : Journal) : ReportsKept s
      { Machine.withdrawRecords .b (Machine.withdrawRecords .a s) with journal := j } :=
    hwithdrawn.trans .of_frame
  exact ((hemptied _).trans (.acceptRecord _ _ _ _)).trans (.of_frame rfl rfl rfl)

theorem setMode (mode : JournalMode) (s : State) : ReportsKept s (setMode mode s).1 := by
  unfold Machine.setMode
  (repeat' split) <;> exact .of_frame rfl rfl rfl

theorem queueRecordsFrame {p : Port} {s t : State} (ht : execQueueRecordsFrame p s = .next t) : ReportsKept s t := by
  obtain rfl := Host.Outcome.next.inj ht
  split
  · exact .refl s
  · dsimp only
    split
    · exact (ReportsKept.queueFrame s p (f := .records _) rfl).trans (.setReader _ p _)
    · exact .refl s

theorem queueGapFrame {p : Port} {s t : State} (ht : execQueueGapFrame p s = .next t) : ReportsKept s t := by
  obtain rfl := Host.Outcome.next.inj ht
  split
  · exact .refl s
  · split
    · exact .refl s
    · split
      · exact (ReportsKept.queueFrame s p (f := .gap _ _ _) rfl).trans (.setReader _ p _)
      · exact .refl s

/-! ### The incident unit and the classifier -/

theorem callFor (rule : LineRule) (x : EdgeInfo) (s : State) : ReportsKept s (callFor rule x s).1 := by
  have hopen (c : Call) : ReportsKept s (openCall c s).1 := by
    unfold openCall
    split
    · exact .raise _ _ s
    · exact .of_frame
  unfold Machine.callFor incidentCall
  repeat' split
  · exact .refl s
  · exact .refl s
  · exact .of_frame
  · exact hopen _
  · exact .refl s

theorem closeSlot (reason : CloseReason) (i : SlotNo) (x : Incident) (s : State) :
    ReportsKept s (closeSlot reason i x s) :=
  have hfreed : ReportsKept s (s.setSlot i none) := .of_frame
  hfreed.trans (.offer _ _)

theorem closeAllIncidents (s : State) : ReportsKept s (closeAllIncidents s).1 := by
  refine List.foldlRecOn (motive := fun acc : State × Nat => ReportsKept s acc.1) _ _ (.refl s) fun acc hacc i _ => ?_
  rw [closeForSwitch_eq]
  split
  · exact hacc.trans (.closeSlot _ i _ _)
  · exact hacc

theorem keepInHand (r : State × EntryInHand) : ReportsKept r.1 (keepInHand r) := .of_frame

theorem setClassified (x : EdgeInfo) (s : State) : ReportsKept s (setClassified x s) := .of_frame

theorem carryOn (h : EntryInHand) (s : State) : ReportsKept s (carryOn h s) := by
  have hbuilt (r : RecordToBuild) (rest : List RecordToBuild) : ReportsKept s (buildRecord h r rest s).1 := by
    cases r with
    | lineChange => exact (ReportsKept.callFor _ _ s).trans (.offer _ _)
    | incidentClose c => exact .offer _ s
    | chatterOn n => exact (ReportsKept.offer _ s).trans (.of_frame rfl rfl rfl)
  unfold Machine.carryOn
  split
  · exact .refl s
  · exact (hbuilt _ _).trans (.keepInHand _)

theorem classifyRelease (rule : LineRule) (e : ReleaseEntry) (s : State) :
    ReportsKept s (classifyRelease rule e s) := by
  have hoffered (c : Classifier) (o : Offer) : ReportsKept s (Machine.offer o { s with classifier := c }) :=
    have hclassifier : ReportsKept s { s with classifier := c } := .of_frame
    hclassifier.trans (.offer _ _)
  unfold Machine.classifyRelease
  dsimp only
  split
  · exact hoffered _ _
  · refine ReportsKept.trans ?_ (.keepInHand _)
    exact (hoffered _ _).trans (.setClassified _ _)

theorem classify (e : FifoEntry) (s : State) : ReportsKept s (classify e s) := by
  unfold Machine.classify
  split
  · exact (ReportsKept.setClassified _ s).trans (.carryOn _ _)
  · exact .classifyRelease _ _ s
  · unfold classifyMarker
    dsimp only
    split
    · exact .offer _ s
    · exact .of_frame

/-- CLASSIFIER_TAKE_ENTRY (R113). -/
theorem classifierTakeEntry {s t : State} (ht : execClassifierTakeEntry s = .next t) : ReportsKept s t := by
  obtain rfl := Host.Outcome.next.inj ht
  split
  · refine ReportsKept.trans ?_ (.carryOn _ _)
    exact .of_frame
  · exact .refl s
  · exact .refl s
  · refine ReportsKept.trans ?_ (.classify _ _)
    exact .of_frame

/-- DEFERRED_SNAPSHOT_BUILD (R118). -/
theorem deferredSnapshotBuild {s t : State} (ht : execDeferredSnapshotBuild s = .next t) : ReportsKept s t := by
  obtain rfl := Host.Outcome.next.inj ht
  split
  · exact .refl s
  · exact .refl s
  · split
    · refine ReportsKept.trans ?_ (.offer _ _)
      exact .of_frame
    · exact .refl s

/-! ### The front end -/

theorem setLine (s : State) (i : LineNo) (l : Line) : ReportsKept s (s.setLine i l) := .of_frame

theorem offerEntry (i : LineNo) (e : FrontEntry) (s : State) : ReportsKept s (offerEntry i e s) := by
  unfold Machine.offerEntry
  split
  · exact .of_frame
  · exact (ReportsKept.setLine s i _).trans (.raise _ _ _)

theorem admitHeld (s : State) : ReportsKept s (admitHeld s) := .of_frame

theorem confirmChange (i : LineNo) (level : Level) (stamp : Stamp) (uptime : Uptime) (s : State) :
    ReportsKept s (confirmChange i level stamp uptime s) := by
  have hlocked (e : FrontEntry) (t : State) : ReportsKept t (lockOut i level e t) := by
    have hoffered (l : Line) :
        ReportsKept t (Machine.offerEntry i e (Machine.raise .chatterLock (.line i) (t.setLine i l))) :=
      ((ReportsKept.setLine t i l).trans (.raise _ _ _)).trans (.offerEntry i e _)
    unfold lockOut
    dsimp only
    split
    · exact hoffered _
    · exact (hoffered _).trans (.setLine _ i _)
  unfold Machine.confirmChange
  dsimp only
  split
  · exact (ReportsKept.setLine s i _).trans (hlocked _ _)
  · exact (ReportsKept.setLine s i _).trans (.offerEntry i _ _)

theorem takeSample (i : LineNo) (level : Level) (changes : Bool) (s : State) :
    ReportsKept s (takeSample i level changes s) := by
  unfold Machine.takeSample startConfirmation takeConfirming
  repeat' split
  · exact .of_frame
  · exact .refl s
  · exact .confirmChange i level _ _ s
  · exact .of_frame
  · exact .of_frame
  · exact .confirmChange i level _ _ s
  · exact .of_frame
  · exact .of_frame

theorem sampleAll (pins : BitVec 32) (s : State) : ReportsKept s (sampleAll pins s) := by
  refine ReportsKept.trans ?_ (.foldl (fun t i => ?_) _ _)
  · exact .of_frame
  · unfold sampleLine
    dsimp only
    split
    · exact (ReportsKept.setLine t i _).trans (.takeSample i _ _ _)
    · exact .setLine t i _

theorem releaseLine (i : LineNo) (lockLevel : Level) (s : State) : ReportsKept s (releaseLine i lockLevel s) :=
  (ReportsKept.setLine s i _).trans (.offerEntry i _ _)

/-! ### The time base and the switch controller -/

theorem reportQuality (old : Quality) (s : State) : ReportsKept s (reportQuality old s) := by
  unfold Machine.reportQuality
  split
  · exact .refl s
  · dsimp only
    split
    · exact (ReportsKept.offer _ s).trans (.raise _ _ _)
    · exact .offer _ s

/-- A change of the time base, reported (R90). -/
theorem setClock (s : State) (c : TimeBase) (old : Quality) :
    ReportsKept s (Machine.reportQuality old { s with clock := c }) :=
  have hset : ReportsKept s { s with clock := c } := .of_frame
  hset.trans (.reportQuality old _)

theorem takePulse (s : State) : ReportsKept s (takePulse s) := by
  have hstep (correction : Option Int) (t : State) : ReportsKept t (reportStep correction t) := by
    unfold reportStep
    repeat' split
    · exact .refl t
    · exact .offer _ t
    · exact .refl t
  have hset : ReportsKept s { s with clock := s.clock.pulse } := .of_frame
  exact (hset.trans (hstep _ _)).trans (.reportQuality _ _)

theorem setTimeTo (t : TimeOfDay) (s : State) : ReportsKept s (setTimeTo t s) :=
  have hset : ReportsKept s { s with clock := s.clock.setTime t } := .of_frame
  (hset.trans (.offer _ _)).trans (.reportQuality _ _)

theorem writeOptions (o : TimeOptions) (s : State) : ReportsKept s (writeOptions o s) :=
  have hset (c : TimeBase) (x : SwitchController) : ReportsKept s { s with clock := c, switch := x } := .of_frame
  (hset _ _).trans (.reportQuality _ _)

theorem offerSwitchDone (s : State) : ReportsKept s (offerSwitchDone s) := by
  unfold Machine.offerSwitchDone
  repeat' split
  · exact .refl s
  · exact .queueFrame s _ rfl
  · exact .refl s

theorem rejectSwitch (r : Rejection) (s : State) : ReportsKept s (rejectSwitch r s) :=
  have hended : ReportsKept s (endSwitch (.rejected r) s) := .of_frame
  (hended.trans (.raise _ _ _)).trans (.offerSwitchDone _)

theorem takeSwitchInstant (s : State) : ReportsKept s (takeSwitchInstant s) := by
  have happended (old new : Generation) : ReportsKept s
      (Machine.append { body := .rulesetSwitch old new (Machine.closeAllIncidents s).2 }
        (Machine.closeAllIncidents s).1).1 :=
    (ReportsKept.closeAllIncidents s).trans (.append _ _)
  have hinstalled : ReportsKept s (installRules s).1 :=
    (happended s.rules.generation (nextSkippingZero s.rules.generation)).trans
      (.of_frame (by simp [installRules]) (by simp [installRules]) (by simp [installRules]))
  have hended : ReportsKept s (endSwitch (.switched (installRules s).2) (installRules s).1) :=
    hinstalled.trans (.of_frame rfl rfl rfl)
  exact (hended.trans (.offerSwitchDone _)).trans (.admitHeld _)

/-! ### Ports and sessions -/

theorem touchSession (p : Port) (s : State) : ReportsKept s (touchSession p s) := by
  unfold Machine.touchSession
  split
  · exact .refl s
  · next ses hs =>
    refine .setPort ⟨fun new hnew => ?_, fun _ h _ => h⟩
    obtain rfl := Option.some.inj hnew
    exact ⟨ses, hs, rfl, rfl⟩

theorem requestArrival (p : Port) (q : Request) (s : State) : ReportsKept s (requestArrival p q s) := by
  unfold Machine.requestArrival
  dsimp only
  repeat' split
  · exact .refl s
  · exact .refl s
  · exact .queueFrame s p rfl
  · exact .setPort .of_eq

theorem feed (p : Port) (bs : List Byte) (s : State) : ReportsKept s (feed p bs s) := by
  refine (ReportsKept.foldl (fun t e => ?_) _ s).trans (.setPort .of_eq)
  cases e with
  | discard => exact .raise _ _ t
  | accept q =>
    unfold rxEvent acceptFrame
    dsimp only
    split
    · exact .touchSession p t
    · exact (ReportsKept.touchSession p t).trans (.requestArrival p q _)

theorem discardCollection (p : Port) (kept : List Byte) (s : State) : ReportsKept s (discardCollection p kept s) :=
  (ReportsKept.raise _ _ s).trans (.feed p kept _)

theorem beginFrame (p : Port) (s : State) : ReportsKept s (beginFrame p s) := by
  have hrelease (x : PortState) (f : Frame) : (x.releaseRequest f).session = x.session := by
    unfold PortState.releaseRequest
    (repeat' split) <;> rfl
  unfold Machine.beginFrame
  split
  · refine .setPort (.of_waiting (fun f hf _ => ?_) (hrelease _ _))
    rw [PortState.releaseRequest_waiting] at hf
    exact eraseFirst_subset _ _ hf
  · exact .refl s

/-- RECEIVE_BYTE (R152 to R154). -/
theorem receiveByte {p : Port} {b : Byte} {stopLow : Bool} {s t : State}
    (ht : execReceiveByte p b stopLow s = .next t) : ReportsKept s t := by
  obtain rfl := Host.Outcome.next.inj ht
  have hsending (u : State) (x : Option Sending) : ReportsKept u (u.setPort .b { u.ports.b with sending := x }) :=
    .setPort .of_eq
  have hready : ReportsKept s (readyPortB s) := by
    unfold readyPortB
    repeat' split
    · exact .beginFrame .b s
    · exact (hsending s none).trans (.beginFrame .b _)
    · exact .refl s
  have hclocked (u : State) : ReportsKept u (clockOut u) := by
    unfold clockOut
    split
    · exact .of_frame
    · refine .of_ports rfl rfl fun q h => ?_
      cases q with
      | a => exact h
      | b => exact h.of_kept .of_eq
  cases p with
  | a =>
    unfold framingError
    dsimp only
    repeat' split
    · exact .refl s
    · exact .discardCollection .a _ s
    · exact .feed .a _ s
  | b => exact (hready.trans (hclocked _)).trans (.feed .b _ _)

/-- A session's end closes its port and withdraws frames (R164). -/
theorem endSession (p : Port) (s : State) : ReportsKept s (endSession p s) := by
  cases hs : (s.ports.get p).session with
  | none =>
    simp only [Machine.endSession, hs]
    exact .refl s
  | some ses =>
    have hclosed : (s.ports.get p).NoticesKept { s.ports.get p with
        session := none, waiting := (s.ports.get p).waiting.filter fun f => f.rank == 0 } :=
      ⟨nofun, fun _ hf _ => (List.mem_filter.1 hf).1⟩
    rw [endSession_eq hs]
    exact (ReportsKept.setPort hclosed).trans (.of_frame rfl rfl rfl)

/-- A session that opens has notices off, and its flag set only while the table is not empty (R148). -/
theorem startSession (p : Port) (n : Nat) (s : State) : ReportsKept s (startSession p n s) := by
  refine .setPort_of_ok fun h => ⟨fun ses hs hon => ?_, fun ses hs hset => ?_, h.waiting⟩
  · obtain rfl := Option.some.inj hs
    exact nomatch hon
  · obtain rfl := Option.some.inj hs
    exact (Bool.not_eq_true' _).mp hset

theorem openBlock (p : Port) (bs : List Byte) (s : State) : ReportsKept s (openBlock p bs s).1 := by
  unfold Machine.openBlock
  repeat' split
  · exact .refl s
  · exact .refl s
  · exact (ReportsKept.endSession p s).trans (.startSession p _ _)

theorem loseSession (p : Port) (s : State) : ReportsKept s (loseSession p s) :=
  ((ReportsKept.endSession p s).trans (.setPort .of_eq)).trans (.raise _ _ _)

end ReportsKept

end Sys2Proof.Machine
end

section
/-!
PROOFS. O53 and O60: the requests and the two clears, and with the other commands every step (R138, R139, R142, R144,
R145, R147, R148, R150). Its proofs are checked one after another (Elab.async off), within the memory of one.
-/
namespace Sys2Proof.Machine
set_option Elab.async false

/-! ### The notices option is written (R144, R148) -/

/-- Notices turned on with the flag set: the flag is cleared, and one NOTICE waits (R148). -/
theorem applyNotices_on {p : Port} {ses : Session} {was now : Bool} {s : State} (hwas : was = false) (hnow : now = true)
    (hset : ses.noticePending = true) :
    applyNotices p ses was now s = s.setPort p { s.ports.get p with
      session := some { ses with noticePending := false }
      waiting := if (s.ports.get p).waiting.any Frame.isNotice then (s.ports.get p).waiting
        else (s.ports.get p).waiting ++ [.notice s.exceptions.occupied s.exceptions.overflow] } := by
  simp only [applyNotices, hwas, hnow, hset, Bool.not_false, Bool.and_self, if_true]
  unfold queueNotice
  rw [State.setSession_ports, PerPort.get_set_self]
  split <;> simp [State.queueFrame, State.setSession, State.setPort]

/-- Notices turned off with a NOTICE waiting: it is withdrawn, and a table that is not empty remembered (R148). -/
theorem applyNotices_off {p : Port} {ses : Session} {was now : Bool} {s : State} (hwas : was = true)
    (hnow : now = false) (hany : (s.ports.get p).waiting.any Frame.isNotice = true) :
    applyNotices p ses was now s = s.setPort p { s.ports.get p with
      session := some { ses with noticePending := ses.noticePending || !s.exceptions.isEmpty }
      waiting := (s.ports.get p).waiting.filter fun f => !f.isNotice } := by
  simp [applyNotices, hwas, hnow, hany, State.withdraw, State.setSession, State.setPort]

/-- Otherwise the option is written and nothing else (R144). -/
theorem applyNotices_else {p : Port} {ses : Session} {was now : Bool} {s : State}
    (hon : was = false → now = true → ses.noticePending = false)
    (hoff : was = true → now = false → (s.ports.get p).waiting.any Frame.isNotice = false) :
    applyNotices p ses was now s = s.setSession p (some ses) := by
  unfold applyNotices
  rw [if_neg, if_neg]
  · intro h
    simp only [Bool.and_eq_true, Bool.not_eq_true'] at h
    obtain ⟨⟨hwas, hnow⟩, hany⟩ := h
    exact nomatch (hoff hwas hnow).symm.trans hany
  · intro h
    simp only [Bool.and_eq_true, Bool.not_eq_true'] at h
    obtain ⟨⟨hwas, hnow⟩, hset⟩ := h
    exact nomatch (hon hwas hnow).symm.trans hset

namespace ReportsKept

/-! ### SET_SESSION_OPTIONS (R144, R148) -/

/-- A session's options are written over those it had, with what that brings (R144, R148). -/
theorem applyNotices {p : Port} {old ses : Session} {s : State} (hold : (s.ports.get p).session = some old)
    (hpending : ses.noticePending = old.noticePending) {now : Bool} (hnow : ses.notices = now) :
    ReportsKept s (applyNotices p ses old.notices now s) := by
  subst hnow
  by_cases hon : old.notices = false ∧ ses.notices = true ∧ ses.noticePending = true
  · obtain ⟨hwas, hnow, hset⟩ := hon
    rw [applyNotices_on hwas hnow hset]
    refine .setPort_of_ok fun h => ?_
    rw [h.flag old hold (hpending ▸ hset)]
    refine .of_notEmpty fun new hnew _ => ?_
    obtain rfl := Option.some.inj hnew
    rfl
  by_cases hoff : old.notices = true ∧ ses.notices = false ∧ (s.ports.get p).waiting.any Frame.isNotice = true
  · obtain ⟨hwas, hnow, hany⟩ := hoff
    rw [applyNotices_off hwas hnow hany]
    refine .setPort_of_ok fun h => ?_
    obtain ⟨f, hf, hn⟩ := List.any_eq_true.1 hany
    rw [h.waiting f hf hn]
    refine .of_notEmpty fun new hnew hnotices => ?_
    obtain rfl := Option.some.inj hnew
    exact nomatch hnow.symm.trans hnotices
  · rw [applyNotices_else (by simpa using hon) (by simpa using hoff)]
    refine .setPort_of_ok fun h => ⟨fun new hnew hnotices => ?_, fun new hnew hset => ?_, h.waiting⟩
    · obtain rfl := Option.some.inj hnew
      cases hwas : old.notices with
      | true => exact hpending.trans (h.on old hold hwas)
      | false => simpa [hwas, hnotices] using hon
    · obtain rfl := Option.some.inj hnew
      exact h.flag old hold (hpending.symm.trans hset)

theorem setSessionOptionsBlock (p : Port) (bs : List Byte) (s : State) :
    ReportsKept s (setSessionOptionsBlock p bs s).1 := by
  unfold Machine.setSessionOptionsBlock
  split
  · exact .refl s
  · exact .refl s
  · next alertFrames _ _ ses _ hs =>
    obtain ⟨hkept, hsession⟩ : ReportsKept s (applyAlertFrames p ses.alertFrames alertFrames s) ∧
        ((applyAlertFrames p ses.alertFrames alertFrames s).ports.get p).session = some ses := by
      unfold applyAlertFrames
      split
      · exact ⟨.withdraw s p _, by simpa using hs⟩
      · exact ⟨.refl s, hs⟩
    refine hkept.trans ?_
    dsimp only
    refine .applyNotices hsession ?_ ?_ <;> rfl

/-! ### The other requests -/

/-- A request step keeps what its block keeps (R157). -/
theorem request {p : Port} {k : RequestKind} {block : List Byte → State → Answer}
    (hb : ∀ bs t, ReportsKept t (block bs t).1) (s : State) : ReportsKept s (request p k block s) :=
  request_induct (fun _ ht => ht.trans (.setPort .of_eq)) (fun _ _ ht => ht.trans (.queueFrame _ p rfl))
    (fun _ _ ht => (ht.trans (.queueFrame _ p rfl)).trans (.setPort .of_eq))
    (fun bs t ht => ht.trans (hb bs t)) (.refl s)

/-- A block that needs the claim keeps what it keeps with the claim (R165). -/
theorem withClaim {p : Port} {s : State} {a : Answer} (h : ReportsKept s a.1) : ReportsKept s (withClaim p s a).1 := by
  unfold Machine.withClaim
  split
  · exact h
  · exact .refl s

theorem claimBlock (p : Port) (bs : List Byte) (s : State) : ReportsKept s (claimBlock p bs s).1 := by
  unfold Machine.claimBlock
  (repeat' split) <;> exact .of_frame rfl rfl rfl

theorem releaseBlock (p : Port) (bs : List Byte) (s : State) : ReportsKept s (releaseBlock p bs s).1 := by
  unfold Machine.releaseBlock
  split <;> exact .of_frame rfl rfl rfl

theorem restartBlock (p : Port) (bs : List Byte) (s : State) : ReportsKept s (restartBlock p bs s).1 := by
  refine .withClaim ?_
  split <;> exact .of_frame rfl rfl rfl

theorem readRecordsBlock (bs : List Byte) (s : State) : ReportsKept s (readRecordsBlock bs s).1 := by
  unfold Machine.readRecordsBlock
  (repeat' split) <;> exact .refl s

theorem setJournalModeBlock (p : Port) (bs : List Byte) (s : State) : ReportsKept s (setJournalModeBlock p bs s).1 := by
  refine .withClaim ?_
  split
  · exact .refl s
  · exact .setMode _ s

theorem dropReaderBlock (p : Port) (bs : List Byte) (s : State) : ReportsKept s (dropReaderBlock p bs s).1 := by
  refine .withClaim ?_
  split
  · exact .refl s
  · exact .endReader _ s

theorem listIncidentsBlock (bs : List Byte) (s : State) : ReportsKept s (listIncidentsBlock bs s).1 := by
  unfold Machine.listIncidentsBlock
  split <;> exact .refl s

theorem closeIncidentBlock (p : Port) (bs : List Byte) (s : State) : ReportsKept s (closeIncidentBlock p bs s).1 := by
  refine .withClaim ?_
  repeat' split
  · exact .refl s
  · exact .refl s
  · exact .closeSlot _ _ _ s

theorem takeSnapshotBlock (p : Port) (bs : List Byte) (s : State) : ReportsKept s (takeSnapshotBlock p bs s).1 := by
  unfold Machine.takeSnapshotBlock
  split <;> exact .of_frame rfl rfl rfl

theorem setTimeBlock (p : Port) (bs : List Byte) (s : State) : ReportsKept s (setTimeBlock p bs s).1 := by
  refine .withClaim ?_
  split
  · exact .refl s
  · exact .setTimeTo _ s

theorem setTimeOptionsBlock (p : Port) (bs : List Byte) (s : State) : ReportsKept s (setTimeOptionsBlock p bs s).1 := by
  refine .withClaim ?_
  repeat' split
  · exact .refl s
  · exact .refl s
  · exact .writeOptions _ s

theorem readRuleBlock (bs : List Byte) (s : State) : ReportsKept s (readRuleBlock bs s).1 := by
  unfold Machine.readRuleBlock
  split <;> exact .refl s

/-- A staged-editing request past the claim (R107). -/
theorem editNamed (edit : Option (Bank → Bank)) (s : State) : ReportsKept s (editNamed edit s).1 := by
  cases edit with
  | none => exact .refl s
  | some e =>
    unfold Machine.editNamed editStaged
    dsimp only
    split <;> exact .of_frame rfl rfl rfl

theorem switchRulesBlock (p : Port) (bs : List Byte) (s : State) : ReportsKept s (switchRulesBlock p bs s).1 := by
  refine .withClaim ?_
  split <;> exact .of_frame rfl rfl rfl

theorem abortSwitchBlock (p : Port) (bs : List Byte) (s : State) : ReportsKept s (abortSwitchBlock p bs s).1 := by
  have hended : ReportsKept s (endSwitch .aborted s) := .of_frame
  refine .withClaim ?_
  split
  · exact hended.trans (.offerSwitchDone _)
  · exact .refl s
  · exact .refl s

/-! ### Every command but the clears and the resets -/

/-- A command that neither clears an alert or an exception nor resets the part keeps what is reported. -/
theorem of_exec {c : Instr} {s t : State} (ht : exec c s = .next t) (hreset : Instr.mayReset c = false)
    (halert : ∀ p, c ≠ .clearAlert p) (hexception : ∀ p, c ≠ .clearException p) : ReportsKept s t := by
  cases c
  case receiveByte => exact .receiveByte ht
  case queueRecordsFrame => exact .queueRecordsFrame ht
  case queueGapFrame => exact .queueGapFrame ht
  case classifierTakeEntry => exact .classifierTakeEntry ht
  case deferredSnapshotBuild => exact .deferredSnapshotBuild ht
  all_goals obtain rfl := Host.Outcome.next.inj ht
  case powerOnReset | pinReset | restartTimerExpiry | transmitFrameComplete => exact nomatch hreset
  case clearAlert p => exact absurd rfl (halert p)
  case clearException p => exact absurd rfl (hexception p)
  case selectionEnd => exact .of_frame
  case gapTimerExpiry p =>
    repeat' split
    · exact .refl s
    · exact .discardCollection p _ s
    · exact .refl s
  case transmitFrameBegin p => exact .beginFrame p s
  case unknownKindRequest p =>
    exact takeRequest_induct (fun _ ht => ht.trans (.setPort .of_eq)) (fun _ _ ht => ht.trans (.queueFrame _ p rfl))
      (fun _ _ ht => (ht.trans (.queueFrame _ p rfl)).trans (.setPort .of_eq)) (fun _ _ ht => ht) (.refl s)
  case identify | ping | getJournalStatus | getLines | getTime | getSwitchStatus | getExceptions =>
    exact .request (fun _ t => .refl t) s
  case openSession p => exact .request (.openBlock p) s
  case closeSession p => exact .request (fun _ => .endSession p) s
  case claim p => exact .request (.claimBlock p) s
  case releaseClaim p => exact .request (.releaseBlock p) s
  case restart p => exact .request (.restartBlock p) s
  case sessionTimerExpiry p =>
    repeat' split
    · exact .refl s
    · exact .loseSession p s
    · exact .refl s
  case readRecords p => exact .request .readRecordsBlock s
  case clearJournal p => exact .request (fun _ t => .withClaim (.clearJournal t)) s
  case setJournalMode p => exact .request (.setJournalModeBlock p) s
  case subscribe p => exact .request (.subscribeBlock p) s
  case resume p => exact .request (.resumeBlock p) s
  case unsubscribe p => exact .request (fun _ => .endReader p) s
  case ack p => exact .request (.ackBlock p) s
  case dropReader p => exact .request (.dropReaderBlock p) s
  case retransmitTimerExpiry p =>
    repeat' split
    · exact .refl s
    · exact .retransmitExpiry p s
    · exact .refl s
  case listIncidents p => exact .request .listIncidentsBlock s
  case closeIncident p =>
    split
    · exact .refl s
    · exact .request (.closeIncidentBlock p) s
  case quietTimerExpiry slot | durationTimerExpiry slot =>
    repeat' split
    · exact .refl s
    · exact .closeSlot _ slot _ s
    · exact .refl s
  case sampleInstant pins =>
    split
    · exact .sampleAll pins s
    · exact .refl s
  case chatterWindowExpiry i =>
    split
    · exact .setLine s i _
    · exact .refl s
  case releaseTimerExpiry i =>
    split
    · split
      · exact .releaseLine i _ s
      · exact .refl s
    all_goals exact .refl s
  case heldEntryAdmission => exact .admitHeld s
  case takeSnapshot p => exact .request (.takeSnapshotBlock p) s
  case syncEdge edge =>
    split
    · exact .takePulse s
    · exact .refl s
  case missingPulseTimerExpiry =>
    split
    · exact .setClock s _ _
    · exact .refl s
  case holdoverTimerExpiry => exact .setClock s _ _
  case setTime p => exact .request (.setTimeBlock p) s
  case setTimeOptions p => exact .request (.setTimeOptionsBlock p) s
  case readRule p => exact .request .readRuleBlock s
  case writeLineRule p => exact .request (fun bs t => writeLineRuleBlock_eq p bs t ▸ .withClaim (.editNamed _ t)) s
  case writeGroupRule p => exact .request (fun bs t => writeGroupRuleBlock_eq p bs t ▸ .withClaim (.editNamed _ t)) s
  case writeGlobalRule p => exact .request (fun bs t => writeGlobalRuleBlock_eq p bs t ▸ .withClaim (.editNamed _ t)) s
  case copyActiveToStaged p => exact .request (fun bs t => copyActiveBlock_eq p bs t ▸ .withClaim (.editNamed _ t)) s
  case switchRules p => exact .request (.switchRulesBlock p) s
  case validationCompletion =>
    repeat' split
    · exact .rejectSwitch _ s
    · exact .of_frame
    · exact .refl s
    · exact .refl s
  case switchInstant =>
    split
    · exact .takeSwitchInstant s
    · exact .refl s
  case abortSwitch p => exact .request (.abortSwitchBlock p) s
  case setSessionOptions p => exact .request (.setSessionOptionsBlock p) s

end ReportsKept

/-! ### The clears and the resets -/

/-- The block of CLEAR_ALERT leaves the exception table (R142). -/
theorem exceptions_clearAlertBlock (bs : List Byte) (s : State) :
    (clearAlertBlock bs s).1.exceptions = s.exceptions := by
  unfold clearAlertBlock
  (repeat' split) <;> rfl

/-- The block of CLEAR_EXCEPTION leaves the alert unit (R150). -/
theorem alert_clearExceptionBlock (bs : List Byte) (s : State) : (clearExceptionBlock bs s).1.alert = s.alert := by
  unfold clearExceptionBlock
  split
  · rfl
  · dsimp only
    split <;> simp

theorem State.reportingOk_iff {s : State} :
    s.ReportingOk ↔ s.exceptions.Ok ∧ s.alert.nAlertLow = s.alert.pending ∧ s.NoticesOk where
  mp h := ⟨h.table, h.pin, State.noticesOk_iff.2 h.notices⟩
  mpr := fun ⟨htable, hpin, hnotices⟩ => ⟨hpin, htable, State.noticesOk_iff.1 hnotices⟩

namespace State.ReportingOk

/-- A cleared alert releases nALERT (R142). -/
theorem clearAlertBlock {s : State} (h : s.ReportingOk) (bs : List Byte) : (clearAlertBlock bs s).1.ReportingOk := by
  unfold Machine.clearAlertBlock
  repeat' split
  · exact h
  · exact ⟨rfl, h.table, h.notices⟩
  · exact h

/-- A clear leaves the table in order, and an empty one no notices (R147, R148, R150). -/
theorem clearExceptionBlock {s : State} (h : s.ReportingOk) (bs : List Byte) :
    (clearExceptionBlock bs s).1.ReportingOk := by
  unfold Machine.clearExceptionBlock
  split
  · exact h
  · next which _ =>
    dsimp only
    split
    · rw [forgetNotices_both]
      refine ⟨h.pin, h.table.clear which, fun p => ?_⟩
      rw [PerPort.get_map]
      exact PortState.silenced_noticesOk _ _
    · next hleft =>
      refine ⟨h.pin, h.table.clear which, fun p => ?_⟩
      dsimp only
      rw [Bool.eq_false_iff.2 hleft]
      exact .of_notEmpty (h.notices p).on

/-- A request step keeps what is reported in order when its block does (R157). -/
theorem request {s : State} (h : s.ReportingOk) {p : Port} {k : RequestKind} {block : List Byte → State → Answer}
    (hb : ∀ bs t, t.ReportingOk → (block bs t).1.ReportingOk) : (request p k block s).ReportingOk :=
  request_induct (fun _ ht => (ReportsKept.setPort .of_eq).ok ht) (fun t _ ht => (ReportsKept.queueFrame t p rfl).ok ht)
    (fun t _ ht => ((ReportsKept.queueFrame t p rfl).trans (.setPort .of_eq)).ok ht) hb h

theorem resetPart (cause : ResetCause) (straps : Straps) (s : State) : (resetPart cause straps s).ReportingOk :=
  have hports : ∀ p, (State.reset.ports.get p).NoticesOk State.reset.exceptions.isEmpty :=
    State.noticesOk_iff.1 reset_noticesOk
  ⟨rfl, reset_exceptionsOk, hports⟩

/-- Every command keeps what is reported in order. -/
theorem exec {c : Instr} {s t : State} (h : s.ReportingOk) (ht : exec c s = .next t) : t.ReportingOk := by
  cases c
  case powerOnReset straps =>
    obtain rfl := Host.Outcome.next.inj ht
    exact .resetPart _ straps s
  case pinReset straps =>
    obtain rfl := Host.Outcome.next.inj ht
    exact .resetPart _ straps s
  case restartTimerExpiry straps =>
    obtain rfl := Host.Outcome.next.inj ht
    repeat' split
    · exact h
    · exact .resetPart _ straps s
    · exact h
  case transmitFrameComplete p straps =>
    obtain rfl := Host.Outcome.next.inj ht
    have hsent : (s.setPort p { s.ports.get p with sending := none }).ReportingOk := (ReportsKept.setPort .of_eq).ok h
    unfold restartAfter
    repeat' split
    · exact h
    · exact hsent
    · exact .resetPart _ straps _
    · exact hsent
    · exact h
  case clearAlert p =>
    obtain rfl := Host.Outcome.next.inj ht
    exact h.request fun bs _ hu => hu.clearAlertBlock bs
  case clearException p =>
    obtain rfl := Host.Outcome.next.inj ht
    exact h.request fun bs _ hu => hu.clearExceptionBlock bs
  all_goals exact (ReportsKept.of_exec ht rfl nofun nofun).ok h

end State.ReportingOk

/-- Settles O53: every command keeps what is reported in order, and the passing of a microsecond does not touch it. -/
theorem stepKeepsReporting : Obligations.StepKeepsReporting := by
  intro s t htable hpin hnotices ht
  have hkept := step_keeps (P := State.ReportingOk) (fun _ _ h => ⟨h.pin, h.table, h.notices⟩)
    (fun _ h => ⟨h.pin, h.table, h.notices⟩) (fun _ _ _ h hc => h.exec hc)
  exact State.reportingOk_iff.1 (hkept s t (State.reportingOk_iff.2 ⟨htable, hpin, hnotices⟩) ht)

/-- Settles O60: a clear of one kind leaves the reports of the other, and every other command leaves both. -/
theorem reportsStayUntilCleared : Obligations.ReportsStayUntilCleared := by
  intro c s t ht hreset
  cases c
  case clearAlert p =>
    obtain rfl := Host.Outcome.next.inj ht
    have htable : (request p .clearAlert clearAlertBlock s).exceptions = s.exceptions :=
      request_keeps State.exceptions (fun _ _ => rfl) exceptions_clearAlertBlock
    refine ⟨fun h _ => absurd rfl (h p), fun _ => ?_⟩
    rw [htable]
    exact ExceptionTable.SlotsKept.refl _
  case clearException p =>
    obtain rfl := Host.Outcome.next.inj ht
    have halert : (request p .clearException clearExceptionBlock s).alert = s.alert :=
      request_keeps State.alert (fun _ _ => rfl) alert_clearExceptionBlock
    refine ⟨fun _ h => ?_, fun h => absurd rfl (h p)⟩
    rw [halert]
    exact h
  all_goals
    have hkept := ReportsKept.of_exec ht hreset nofun nofun
    exact ⟨fun _ => hkept.pending, fun _ => hkept.slots⟩

end Sys2Proof.Machine
end

section
/-!
PROOFS. O12, O29 to O33: an alert, a raise, the two clears, SET_SESSION_OPTIONS and OPEN as the statements describe them
(R138 to R142, R144, R145, R147, R148, R150, R160). Its proofs are checked one after another (Elab.async off), within
the memory of one.
-/
namespace Sys2Proof.Machine
set_option Elab.async false

/-! ### Frames by rank (R159) -/

theorem rank_beq_one (f : Frame) : (f.rank == 1) = f.isAlert := by cases f <;> rfl

theorem rank_bne_one (f : Frame) : (f.rank != 1) = !f.isAlert := by cases f <;> rfl

theorem rank_bne_two (f : Frame) : (f.rank != 2) = !f.isNotice := by cases f <;> rfl

/-- A NOTICE waits: a frame of rank 2. -/
theorem any_isNotice_iff {l : List Frame} : l.any Frame.isNotice = true ↔ ∃ f ∈ l, f.rank = 2 := by
  simp only [List.any_eq_true, isNotice_iff_rank]

theorem any_isNotice_eq_false_iff {l : List Frame} : l.any Frame.isNotice = false ↔ ∀ f ∈ l, f.rank ≠ 2 := by
  rw [← Bool.not_eq_true, any_isNotice_iff]
  push Not
  rfl

/-! ### A request and what its block answers (R157) -/

/-- A ready request is answered with what its block answers. -/
theorem request_of_block {s : State} {p : Port} {k : RequestKind} {q : Request} {block : List Byte → State → Answer}
    {t : State} {status : Status} {body : ReplyBody} (hq : Ready s p k q)
    (hb : block q.payload (s.putInHand p) = (t, status, body)) :
    request p k block s = t.replied p q status body := by
  rw [request_ready block hq, hb]

/-! ### Alerts (R138 to R142) -/

/-- The first of a kind leaves from behind those of other kinds. -/
theorem eraseFirst_append {α : Type} {f : α → Bool} {pre post : List α} {x : α} (hpre : ∀ y ∈ pre, f y = false)
    (hx : f x = true) : eraseFirst f (pre ++ x :: post) = pre ++ post := by
  induction pre with
  | nil => simp [eraseFirst, hx]
  | cons y ys ih =>
    rw [List.cons_append, eraseFirst, if_neg (Bool.eq_false_iff.1 (hpre y List.mem_cons_self)),
      ih fun z hz => hpre z (List.mem_cons_of_mem _ hz), List.cons_append]

/-- Settles O29: both ports are offered the alert, each by its session and the ALERT frames that wait. -/
theorem alertIsTakenAndOffered : Obligations.AlertIsTakenAndOffered := by
  intro a s
  refine ⟨s.ports.map (PortState.alerted a), takeAlert_eq a s, fun p => ?_⟩
  simp only [PerPort.get_map, rank_beq_one]
  refine ⟨fun hs => PortState.alerted_of_closed hs, fun ses hs => ⟨PortState.alerted_of_unwanted hs,
    fun hon hthreshold hroom => ?_, fun hon hthreshold hfull pre f post hw hpre => ?_⟩⟩
  · rw [PortState.alerted_of_wanted hs hon hthreshold]
    simp [Config.alertCapacity, Nat.not_le.2 hroom, hs]
  · have hothers : ∀ g ∈ pre, g.isAlert = false := fun g hg => by
      cases g with
      | alert x => exact absurd hg (hpre x)
      | _ => rfl
    rw [PortState.alerted_of_wanted hs hon hthreshold]
    simp only [Config.alertCapacity, hfull, if_true]
    rw [hw, eraseFirst_append hothers rfl]

/-- Settles O30: the block's three answers, the named number compared with the latest alert. -/
theorem clearAlertChecksLatest : Obligations.ClearAlertChecksLatest := by
  intro p s q n hq hpayload u cleared
  have hfield : fieldSeq q.payload 0 = n := by
    rw [hpayload, ← List.append_nil (seqBytes n), fieldSeq_seqBytes]
  have hanswer {t : State} {status : Status} {body : ReplyBody} (h : clearAlertBlock q.payload u = (t, status, body)) :
      exec (.clearAlert p) s = .next (t.replied p q status body) :=
    congrArg Host.Outcome.next (request_of_block hq h)
  have hset (hpending : s.alert.pending = true) : ¬ u.alert.pending = false := by simp [u, hpending]
  have hcovers {latest : Seq} (haged : s.alert.aged = false) (hlatest : s.alert.latest = some latest) :
      coversLatest u n = true ↔ (s.journal.next - n).toNat ≤ (s.journal.next - latest).toNat := by
    simp only [coversLatest, u, State.putInHand_alert, hlatest, haged, Bool.false_or, atOrAbove, decide_eq_true_eq]
    rfl
  refine ⟨fun hpending => hanswer (if_pos hpending), fun hpending haged => ?_,
    fun latest hpending haged hlatest => ⟨fun h => ?_, fun h => ?_⟩⟩
  · have hany : coversLatest u n = true := by
      unfold coversLatest
      split <;> simp [u, haged]
    refine hanswer ?_
    rw [clearAlertBlock, if_neg (hset hpending), hfield, if_pos hany]
    rfl
  · refine hanswer ?_
    rw [clearAlertBlock, if_neg (hset hpending), hfield, if_pos ((hcovers haged hlatest).2 h)]
    rfl
  · have hbelow : ¬ coversLatest u n = true := fun hc => absurd h (Nat.not_lt.2 ((hcovers haged hlatest).1 hc))
    rw [← hlatest]
    refine hanswer ?_
    rw [clearAlertBlock, if_neg (hset hpending), hfield, if_neg hbelow]
    rfl

/-! ### The exception table (R145, R147, R150) -/

theorem exceptions_raise (kind : ExceptionKind) (subject : ExceptionSubject) (s : State) :
    (raise kind subject s).exceptions = s.exceptions.take s.clock.uptime kind subject := by
  rw [raise_eq]

theorem ports_raise (kind : ExceptionKind) (subject : ExceptionSubject) (s : State) :
    (raise kind subject s).ports =
      if s.exceptions.isEmpty then
        s.ports.map (PortState.noticed (s.exceptions.take s.clock.uptime kind subject))
      else s.ports := by
  rw [raise_eq]

/-- Settles O32: the table by the way the raise is taken, and the ports by their sessions. -/
theorem raisedExceptionTakesItsSlot : Obligations.RaisedExceptionTakesItsSlot := by
  refine ⟨?_, ?_⟩
  · intro kind subject s hok t
    have htaken : s.exceptions.Raised s.clock.uptime kind subject t := by
      simp only [t, exceptions_raise]
      exact ExceptionTable.raised_take _ _ _ _
    clear_value t
    cases htaken with
    | closed hover => exact ⟨fun _ => rfl, fun h => nomatch h.symm.trans hover⟩
    | counted i e h hi hk hs =>
      refine ⟨fun hover => (nomatch h.symm.trans hover), fun _ => ⟨fun j x hj hjk hjs => ?_, fun hnew => ?_⟩⟩
      · obtain rfl := (hok i j e x hi hj).2 (hk.trans hjk.symm) (hs.trans hjs.symm)
        obtain rfl := Option.some.inj (hi.symm.trans hj)
        rfl
      · exact (hnew i e hi).elim (absurd hk) (absurd hs)
    | placed i h hnew hi hlow =>
      refine ⟨fun hover => (nomatch h.symm.trans hover), fun _ =>
        ⟨fun j x hj hjk hjs => (hnew j x hj).elim (absurd hjk) (absurd hjs), fun _ =>
        ⟨fun j hj hjlow => ?_, fun hfull => absurd hi (hfull i)⟩⟩⟩
      rcases lt_trichotomy i j with hij | rfl | hij
      · exact absurd hi (hjlow i hij)
      · rfl
      · exact absurd hj (hlow j hij)
    | overflows h hnew hfull =>
      exact ⟨fun hover => (nomatch h.symm.trans hover), fun _ =>
        ⟨fun j x hj hjk hjs => (hnew j x hj).elim (absurd hjk) (absurd hjs), fun _ =>
        ⟨fun j hj => absurd hj (hfull j), fun _ => rfl⟩⟩⟩
  · intro kind subject s
    refine ⟨(raise kind subject s).ports, by rw [raise_eq], fun hleft => ?_, fun hempty p => ?_⟩
    · rw [ports_raise, hleft]
      rfl
    · rw [exceptions_raise, ports_raise, if_pos hempty, PerPort.get_map]
      refine ⟨fun hs => PortState.noticed_of_closed hs, fun ses hs => ?_⟩
      rw [PortState.noticed_of_open hs]
      refine ⟨fun hoff => ?_, fun hon hany => ?_, fun hon hnone => ?_⟩
      · rw [if_neg (Bool.eq_false_iff.1 hoff)]
      · rw [if_pos hon, if_pos (any_isNotice_iff.2 hany)]
      · rw [if_pos hon, if_neg (Bool.eq_false_iff.1 (any_isNotice_eq_false_iff.2 hnone))]

/-- The table that a CLEAR_EXCEPTION leaves, and both ports silenced if it is empty (R150). -/
theorem exec_clearException {p : Port} {s : State} {q : Request} {which : Option SlotNo}
    (hq : Ready s p .clearException q) (hwhich : clearExceptionOf q.payload = some which) :
    exec (.clearException p) s = .next (
      let u := s.putInHand p
      let t := s.exceptions.clear which
      (if t.isEmpty then { u with exceptions := t, ports := u.ports.map PortState.silenced }
        else { u with exceptions := t }).replied p q .ok (.occupied t.occupied t.overflow)) := by
  refine congrArg Host.Outcome.next ((request_ready clearExceptionBlock hq).trans ?_)
  simp only [clearExceptionBlock, hwhich, State.putInHand_exceptions, forgetNotices_both]
  split <;> rfl

/-- Settles O33: what the byte names, and the table and the ports its clear leaves. -/
theorem exceptionsAreCleared : Obligations.ExceptionsAreCleared := by
  intro p s q b hq hpayload u silenced leave
  have hbyte : fieldByte q.payload 0 = b.toNat := by rw [hpayload]; rfl
  have hsilenced : silenced = PortState.silenced := by
    funext x
    simp only [silenced, PortState.silenced, rank_bne_two]
  have hleave {which : Option SlotNo} (h : clearExceptionOf q.payload = some which) :
      exec (.clearException p) s = leave (s.exceptions.clear which) := by
    rw [exec_clearException hq h]
    simp only [leave, hsilenced]
    rfl
  refine ⟨fun hall hout => ?_, fun i hi => ?_, fun hall => ?_⟩
  · have hnone : clearExceptionOf q.payload = none := by
      have hne : ¬ b.toNat = 255 := fun h => hall (BitVec.eq_of_toNat_eq h)
      rw [clearExceptionOf, hbyte, if_neg hne, finOf_eq_none hout]
      rfl
    refine congrArg Host.Outcome.next (request_of_block hq ?_)
    simp only [clearExceptionBlock, hnone, refuse, u]
  · have hval : b.toNat = i.val := by
      rw [hi, BitVec.toNat_ofNat]
      omega
    refine hleave (which := some i) ?_
    rw [clearExceptionOf, hbyte, if_neg (by omega), finOf_eq_some_iff.2 hval]
    rfl
  · refine hleave (which := none) ?_
    rw [clearExceptionOf, hbyte, hall]
    rfl

/-! ### Sessions (R144, R148, R160) -/

/-- The successor of a counter of 8 bits that skips 0 (Table 0-4). -/
theorem nextSkippingZero_byte (n : Byte) : nextSkippingZero n = if n = 255 then 1 else n + 1 := by
  revert n
  decide

/-- A session's end leaves the number of the next session (R160, R164). -/
theorem nextSession_endSession (p : Port) (s : State) :
    ((endSession p s).ports.get p).nextSession = (s.ports.get p).nextSession := by
  cases hs : (s.ports.get p).session with
  | none => simp only [endSession, hs]
  | some ses => simp [endSession_eq hs]

/-- Settles O12: the version, the timeout, and the session that opens after the end of one open before. -/
theorem openStartsNewSession : Obligations.OpenStartsNewSession := by
  intro p s q version hi lo hq hpayload ms e n
  have hversion : fieldByte q.payload 0 = version.toNat := by rw [hpayload]; rfl
  have hms : fieldInt q.payload 1 2 = ms := by
    rw [hpayload]
    simp [fieldInt, ofBytes, ms]
  have hanswer {t : State} {status : Status} {body : ReplyBody}
      (h : openBlock p q.payload (s.putInHand p) = (t, status, body)) :
      exec (.openSession p) s = .next (t.replied p q status body) :=
    congrArg Host.Outcome.next (request_of_block hq h)
  have hspoken (h : version = 1) : ¬ fieldByte q.payload 0 ≠ Config.protocolVersion := by
    rw [hversion, h]
    decide
  refine ⟨fun hwrong => ?_, fun hright hout => ?_, fun hright hlow hhigh => ?_⟩
  · refine hanswer (if_pos fun h => hwrong ?_)
    exact BitVec.eq_of_toNat_eq (hversion.symm.trans h)
  · refine hanswer ?_
    rw [openBlock, if_neg (hspoken hright), hms, within, if_neg (by omega)]
    rfl
  · have hnext : (e.ports.get p).nextSession = n := by simp [e, n, nextSession_endSession]
    have hstart : startSession p ms e = e.setPort p { e.ports.get p with
        session := some ⟨n, ms, s.clock.uptime + BitVec.ofNat 48 (ms * 1000), false, 0, false, 0,
          !s.exceptions.isEmpty⟩
        nextSession := if n = 255 then 1 else n + 1 } := by
      simp [startSession, newSession, hnext, nextSkippingZero_byte, afterMs, afterUs, e]
    refine hanswer ?_
    rw [openBlock, if_neg (hspoken hright), hms, within_eq_some_iff.2 ⟨rfl, hlow, hhigh⟩]
    dsimp only
    rw [hstart]
    simp [State.claimState]

theorem boolOf_of_le {b : Byte} (h : b.toNat ≤ 1) : boolOf b.toNat = some (b == 1) := by
  rcases Nat.le_one_iff_eq_zero_or_eq_one.1 h with hb | hb
  · obtain rfl : b = 0 := BitVec.eq_of_toNat_eq hb
    rfl
  · obtain rfl : b = 1 := BitVec.eq_of_toNat_eq hb
    rfl

theorem boolOf_eq_none {n : Nat} (h : 1 < n) : boolOf n = none := by
  unfold boolOf
  split
  · omega
  · omega
  · rfl

/-- The alert-frames option is written: turned off, it withdraws the port's waiting ALERT frames (R141, R144). -/
theorem applyAlertFrames_eq (p : Port) (was now : Bool) (s : State) :
    applyAlertFrames p was now s = s.setPort p { s.ports.get p with
      waiting := if was && !now then (s.ports.get p).waiting.filter (·.rank != 1) else (s.ports.get p).waiting } := by
  unfold applyAlertFrames
  split
  · simp only [rank_bne_one]
    rfl
  · exact (setPort_get_self s p).symm

/-- Settles O31: the fields, the ALERT frames that stay, and the notices option case by case. -/
theorem sessionOptionsAreWritten : Obligations.SessionOptionsAreWritten := by
  intro p s q x y z ses hq hpayload hs
  have hsession : ((s.putInHand p).ports.get p).session = some ses := by rw [session_putInHand, hs]
  have hanswer {t : State} {status : Status} {body : ReplyBody}
      (h : setSessionOptionsBlock p q.payload (s.putInHand p) = (t, status, body)) :
      exec (.setSessionOptions p) s = .next (t.replied p q status body) :=
    congrArg Host.Outcome.next (request_of_block hq h)
  refine ⟨fun hout => hanswer ?_, fun hx hz cls hy => ?_⟩
  · have hnone : sessionOptionsOf q.payload = none := by
      rw [hpayload]
      rcases hout with h | h | h
      · simp [sessionOptionsOf, fieldByte, boolOf_eq_none h]
      · simp [sessionOptionsOf, fieldByte, finOf_eq_none h]
      · simp [sessionOptionsOf, fieldByte, boolOf_eq_none h]
    simp only [setSessionOptionsBlock, hnone, refuse]
  · intro alerts notices kept leave
    have hfields : sessionOptionsOf q.payload = some (alerts, cls, notices) := by
      have hcls : finOf 8 y.toNat = some cls := finOf_eq_some_iff.2 (by rw [hy, BitVec.toNat_ofNat]; omega)
      rw [hpayload]
      simp [sessionOptionsOf, fieldByte, boolOf_of_le hx, boolOf_of_le hz, hcls, alerts, notices]
    obtain ⟨written, hwritten⟩ : ∃ written : Session,
        written = { ses with alertFrames := alerts, threshold := cls, notices := notices } := ⟨_, rfl⟩
    obtain ⟨v, hv⟩ : ∃ v, v = (s.putInHand p).setPort p { (s.putInHand p).ports.get p with waiting := kept } := ⟨_, rfl⟩
    have hframes : applyAlertFrames p ses.alertFrames alerts (s.putInHand p) = v := by
      rw [applyAlertFrames_eq, hv]
      simp [kept]
    have hwaiting : (v.ports.get p).waiting = kept := by simp [hv]
    have hpending : written.noticePending = ses.noticePending := by rw [hwritten]
    have hexceptions : v.exceptions = s.exceptions := by rw [hv]; rfl
    have hleave {waiting : List Frame} {pending : Bool}
        (h : applyNotices p written ses.notices notices v = v.setPort p { v.ports.get p with
          waiting := waiting, session := some { written with noticePending := pending } }) :
        exec (.setSessionOptions p) s = leave waiting pending := by
      refine hanswer ?_
      simp only [setSessionOptionsBlock, hfields, hsession, hframes, ← hwritten, h]
      simp [hv, hwritten, State.setPort]
    have helse (hon : ses.notices = false → notices = true → written.noticePending = false)
        (hoff : ses.notices = true → notices = false → (v.ports.get p).waiting.any Frame.isNotice = false) :
        exec (.setSessionOptions p) s = leave kept ses.noticePending := by
      refine hleave ((applyNotices_else hon hoff).trans ?_)
      rw [State.setSession, ← hwaiting, ← hpending]
    refine ⟨fun h => ?_, fun hwas hnow hclear => ?_, fun hwas hnow hset hnone => ?_, fun hwas hnow hset hany => ?_,
      fun hwas hnow hnone => ?_, fun hwas hnow hany => ?_⟩
    · exact helse (fun hwas hnow => nomatch (hwas.symm.trans h).trans hnow)
        (fun hwas hnow => nomatch (hwas.symm.trans h).trans hnow)
    · rw [← hclear]
      exact helse (fun _ _ => hpending.trans hclear) (fun h => nomatch hwas.symm.trans h)
    · refine hleave ((applyNotices_on hwas hnow (hpending.trans hset)).trans ?_)
      rw [hwaiting, if_neg (Bool.eq_false_iff.1 (any_isNotice_eq_false_iff.2 hnone)), hexceptions]
    · refine hleave ((applyNotices_on hwas hnow (hpending.trans hset)).trans ?_)
      rw [hwaiting, if_pos (any_isNotice_iff.2 hany)]
    · exact helse (fun h => nomatch hwas.symm.trans h)
        (fun _ _ => by rw [hwaiting]; exact any_isNotice_eq_false_iff.2 hnone)
    · have hwaits : (v.ports.get p).waiting.any Frame.isNotice = true := by
        rw [hwaiting]
        exact any_isNotice_iff.2 hany
      refine hleave ((applyNotices_off hwas hnow hwaits).trans ?_)
      simp only [hwaiting, hpending, hexceptions, rank_bne_two]

end Sys2Proof.Machine
end

section
/-!
PROOFS. O6, O8, O9: the frame receiver, from a run of bytes to the frames it accepts and the collections it discards
(R152, R154, R169), and an accepted frame against the session and the request queue (R155, R156, R163).
-/
namespace Sys2Proof.Machine

/-! ### The bytes kept after a SYNC byte (R154) -/

/-- Too few bytes have followed the SYNC byte for the frame that LEN announces. -/
theorem collect_short {len : Byte} {kept : List Byte} (hlen : len.toNat ≤ 250)
    (hshort : kept.length + 1 < len.toNat + 5) : collect (len :: kept) = .incomplete := by
  rw [collect, if_neg (Nat.not_lt.2 hlen), if_pos (by simpa using hshort)]

theorem collect_long_len {len : Byte} (kept : List Byte) (hlen : 250 < len.toNat) :
    collect (len :: kept) = .bad := by
  rw [collect, if_pos hlen]

/-- Once LEN plus 5 bytes have followed, the CRC over LEN to the last payload byte decides. -/
theorem collect_whole {len kind tag hi lo : Byte} {payload more : List Byte} (hlen : len.toNat ≤ 250)
    (hpayload : payload.length = len.toNat) :
    collect (len :: kind :: tag :: (payload ++ hi :: lo :: more)) =
      if crc16 (len :: kind :: tag :: payload) = hi ++ lo then .good ⟨kind, tag, payload⟩ (len.toNat + 5)
      else .bad := by
  have htake : (len :: kind :: tag :: (payload ++ hi :: lo :: more)).take (len.toNat + 3) =
      len :: kind :: tag :: payload := by
    simp [hpayload]
  have hcrc : fieldInt (len :: kind :: tag :: (payload ++ hi :: lo :: more)) (len.toNat + 3) 2 = (hi ++ lo).toNat := by
    rw [← fieldInt_two]
    simp [fieldInt, hpayload]
  have hrequest : (payload ++ hi :: lo :: more).take len.toNat = payload := by
    rw [← hpayload, List.take_left]
  rw [collect, if_neg (Nat.not_lt.2 hlen), if_neg (by simp [hpayload]), htake, hcrc]
  simp only [BitVec.toNat_inj, List.getD_cons_succ, List.getD_cons_zero, List.drop_succ_cons, List.drop_zero, hrequest]

/-! ### A run of bytes from HUNTING (R154) -/

theorem scan_skip (n : Nat) (bs : List Byte) : scan n bs = scan 0 (bs.drop n) := by
  induction n generalizing bs with
  | zero => rfl
  | succ n ih =>
    cases bs with
    | nil => rfl
    | cons b bs => exact ih bs

/-- HUNTING ignores every byte but the SYNC byte. -/
theorem scan_append_of_no_sync {pre : List Byte} (hpre : ∀ x ∈ pre, x ≠ 0xC3) (l : List Byte) :
    scan 0 (pre ++ l) = scan 0 l := by
  induction pre with
  | nil => rfl
  | cons b bs ih =>
    obtain ⟨hb, hbs⟩ := List.forall_mem_cons.1 hpre
    rw [List.cons_append, scan, if_neg hb, ih hbs]

theorem feed_append_of_no_sync {pre : List Byte} (hpre : ∀ x ∈ pre, x ≠ 0xC3) (p : Port) (l : List Byte) (s : State) :
    feed p (pre ++ l) s = feed p l s := by
  rw [feed, scan_append_of_no_sync hpre, feed]

theorem feed_nil (p : Port) (s : State) : feed p [] s = setReceiver p .hunting s := rfl

theorem feed_no_sync {pre : List Byte} (hpre : ∀ x ∈ pre, x ≠ 0xC3) (p : Port) (s : State) :
    feed p pre s = setReceiver p .hunting s := by
  rw [← List.append_nil pre, feed_append_of_no_sync hpre, feed_nil]

theorem feed_incomplete {kept : List Byte} (h : collect kept = .incomplete) (p : Port) (s : State) :
    feed p (0xC3 :: kept) s = setReceiver p (.collecting kept) s := by
  rw [feed, scan, if_pos rfl, h]
  rfl

/-- A discarded collection raises LINK_ERROR, and its bytes after the SYNC byte are scanned again. -/
theorem feed_bad {kept : List Byte} (h : collect kept = .bad) (p : Port) (s : State) :
    feed p (0xC3 :: kept) s = feed p kept (raise .linkError (.port p) s) := by
  rw [feed, scan, if_pos rfl, h]
  rfl

/-- An accepted frame is handled, and the bytes after it are scanned. -/
theorem feed_good {kept : List Byte} {q : Request} {used : Nat} (h : collect kept = .good q used) (p : Port)
    (s : State) : feed p (0xC3 :: kept) s = feed p (kept.drop used) (acceptFrame p q s) := by
  rw [feed, scan, if_pos rfl, h]
  dsimp only
  rw [scan_skip]
  rfl

/-- A collection with all its bytes is discarded or accepted by its CRC. -/
theorem feed_whole {len kind tag hi lo : Byte} {payload : List Byte} (hlen : len.toNat ≤ 250)
    (hpayload : payload.length = len.toNat) (more : List Byte) (p : Port) (s : State) :
    feed p (0xC3 :: len :: kind :: tag :: (payload ++ hi :: lo :: more)) s =
      if crc16 (len :: kind :: tag :: payload) = hi ++ lo then feed p more (acceptFrame p ⟨kind, tag, payload⟩ s)
      else feed p (len :: kind :: tag :: (payload ++ hi :: lo :: more)) (raise .linkError (.port p) s) := by
  have hdrop : (len :: kind :: tag :: (payload ++ hi :: lo :: more)).drop (len.toNat + 5) = more := by
    simp [List.drop_append, hpayload]
  split
  · next hcrc => rw [feed_good ((collect_whole hlen hpayload).trans (if_pos hcrc)), hdrop]
  · next hcrc => exact feed_bad ((collect_whole hlen hpayload).trans (if_neg hcrc)) p s

/-! ### The receiver's state (R154, log 10) -/

theorem setReceiver_hunting (p : Port) (s : State) :
    setReceiver p .hunting s = s.setPort p { s.ports.get p with receiver := .hunting, gapTimer := none } := rfl

theorem setReceiver_collecting (p : Port) (kept : List Byte) (s : State) :
    setReceiver p (.collecting kept) s = s.setPort p { s.ports.get p with
      receiver := .collecting kept, gapTimer := some (s.clock.uptime + 5000) } := rfl

/-! ### One byte (R152, R154) -/

theorem exec_receiveByte_a {s : State} {r : Receiver} (hr : s.ports.a.receiver = r) (b : Byte) :
    exec (.receiveByte .a b false) s = .next (feed .a (r.buffer ++ [b]) s) := by
  rw [← hr]
  rfl

theorem exec_receiveByte_stopLow_hunting {s : State} (hr : s.ports.a.receiver = .hunting) (b : Byte) :
    exec (.receiveByte .a b true) s = .next s := by
  simp [exec, execReceiveByte, framingError, hr]

theorem exec_receiveByte_stopLow_collecting {s : State} {kept : List Byte} (hr : s.ports.a.receiver = .collecting kept)
    (b : Byte) : exec (.receiveByte .a b true) s = .next (feed .a kept (raise .linkError (.port .a) s)) := by
  simp [exec, execReceiveByte, framingError, discardCollection, hr]

theorem exec_gapTimerExpiry {p : Port} {s : State} {kept : List Byte} {d : Uptime}
    (hr : (s.ports.get p).receiver = .collecting kept) (hd : (s.ports.get p).gapTimer = some d) :
    exec (.gapTimerExpiry p) s =
      .next (if reached s.clock.uptime d = true then feed p kept (raise .linkError (.port p) s) else s) := by
  simp only [exec, execGapTimerExpiry, hr, hd, expired, discardCollection]

/-- Settles O6: what each byte, a framing error and a gap make of the receiver, and a run of bytes scanned from HUNTING.
-/
theorem receiverCollectsAndDiscards : Obligations.ReceiverCollectsAndDiscards := by
  refine ⟨fun s b => ⟨fun hr hgap hb => ?_, fun hr => ?_, fun hr => exec_receiveByte_stopLow_hunting hr b,
    fun len kept hr hlen hshort => ?_, fun hr hlen => ?_, fun len kind tag payload hi hr hlen hpayload => ?_,
    fun kept hr => exec_receiveByte_stopLow_collecting hr b, fun p kept d hr hd => ?_⟩, ?_⟩
  · rw [exec_receiveByte_a hr, Receiver.buffer, List.nil_append, feed_no_sync (by simpa using hb), setReceiver_hunting,
      ← hr, ← hgap]
    exact congrArg Host.Outcome.next (setPort_get_self s .a)
  · rw [exec_receiveByte_a hr]
    exact congrArg Host.Outcome.next (feed_incomplete rfl .a s)
  · have hcollect : collect (len :: (kept ++ [b])) = .incomplete := collect_short hlen (by simpa using hshort)
    rw [exec_receiveByte_a hr]
    exact congrArg Host.Outcome.next (feed_incomplete hcollect .a s)
  · rw [exec_receiveByte_a hr]
    exact congrArg Host.Outcome.next (feed_bad (collect_long_len [] hlen) .a s)
  · have hwhole := feed_whole (kind := kind) (tag := tag) (hi := hi) (lo := b) hlen hpayload [] .a s
    have hbuffer : (Receiver.collecting (len :: kind :: tag :: (payload ++ [hi]))).buffer ++ [b] =
        0xC3 :: len :: kind :: tag :: (payload ++ [hi, b]) := by simp [Receiver.buffer]
    rw [exec_receiveByte_a hr, hbuffer, hwhole]
    exact ⟨fun hcrc => by rw [if_neg hcrc], fun hcrc => by rw [if_pos hcrc]⟩
  · rw [exec_gapTimerExpiry hr hd]
    exact ⟨fun h => by rw [if_neg (Bool.eq_false_iff.1 h)], fun h => by rw [if_pos h]⟩
  · intro p s pre rest hpre discarded
    rw [feed_append_of_no_sync hpre]
    refine ⟨feed_no_sync hpre p s, fun hrest => ?_, fun len kept hrest hlen => ?_,
      fun len kind tag payload hi lo more hrest hlen hpayload => ?_⟩
    · have hcollect : collect rest = .incomplete := by
        rcases hrest with rfl | ⟨len, kept, rfl, hlen, hshort⟩
        · rfl
        · exact collect_short hlen hshort
      exact feed_incomplete hcollect p s
    · exact feed_bad (by rw [hrest, collect_long_len kept hlen]) p s
    · have hwhole := feed_whole (kind := kind) (tag := tag) (hi := hi) (lo := lo) hlen hpayload more p s
      simp only [discarded, hrest]
      rw [hwhole]
      exact ⟨fun hcrc => if_neg hcrc, fun hcrc => if_pos hcrc⟩

/-! ### An accepted frame and an arriving request (R155, R156, R163) -/

theorem isPartKind_iff (kind : Byte) :
    isPartKind kind = true ↔ kind = 0x80 ∨ 0x90 ≤ kind.toNat ∧ kind.toNat ≤ 0x94 := by
  simp [isPartKind]

theorem acceptFrame_of_partKind {p : Port} {q : Request} (h : isPartKind q.kind = true) (s : State) :
    acceptFrame p q s = touchSession p s := if_pos h

theorem acceptFrame_of_request {p : Port} {q : Request} (h : isPartKind q.kind = false) (s : State) :
    acceptFrame p q s = requestArrival p q (touchSession p s) := if_neg (Bool.eq_false_iff.1 h)

/-- A queued request has the tag, which is not 0 (R156). -/
def PortState.hasTag (x : PortState) (tag : Byte) : Prop :=
  tag ≠ 0 ∧ ∃ r ∈ x.requests, r.tag = tag

theorem PortState.hasTag_iff {x : PortState} {tag : Byte} :
    (tag ≠ 0 ∧ x.requests.any (fun r => r.tag == tag) = true) ↔ x.hasTag tag := by
  simp [PortState.hasTag]

theorem requestArrival_duplicate {p : Port} {q : Request} {s : State} (h : (s.ports.get p).hasTag q.tag) :
    requestArrival p q s = s := if_pos (PortState.hasTag_iff.2 h)

theorem requestArrival_room {p : Port} {q : Request} {s : State} (h : ¬ (s.ports.get p).hasTag q.tag)
    (hroom : (s.ports.get p).requests.length < 4) :
    requestArrival p q s = s.setPort p { s.ports.get p with requests := (s.ports.get p).requests ++ [q] } := by
  rw [requestArrival, if_neg (mt PortState.hasTag_iff.1 h), if_neg (Nat.not_le.2 hroom)]

theorem requestArrival_full {p : Port} {q : Request} {s : State} (h : ¬ (s.ports.get p).hasTag q.tag)
    (hfull : 4 ≤ (s.ports.get p).requests.length) :
    requestArrival p q s = if (s.ports.get p).waiting.any Frame.isLinkReply then s
      else s.queueFrame p (.reply true ⟨q.kind, q.tag, .queueFull, .none⟩) := by
  rw [requestArrival, if_neg (mt PortState.hasTag_iff.1 h), if_pos hfull]

theorem any_isLinkReply_iff {l : List Frame} : l.any Frame.isLinkReply = true ↔ ∃ r, .reply true r ∈ l := by
  refine List.any_eq_true.trans ⟨fun ⟨f, hf, hlink⟩ => ?_, fun ⟨r, hr⟩ => ⟨_, hr, rfl⟩⟩
  cases f with
  | reply fromLink r =>
    obtain rfl : fromLink = true := hlink
    exact ⟨r, hf⟩
  | _ => exact nomatch hlink

/-- Settles O9: the session's deadline at an accepted frame, and an arriving request against the queue. -/
theorem arrivingRequestJoinsQueue : Obligations.ArrivingRequestJoinsQueue := by
  refine ⟨?_, fun p q s => ⟨requestArrival_duplicate, fun hfresh => ⟨requestArrival_room hfresh, fun hfull => ?_⟩⟩⟩
  · intro p q s touched
    have htouched : touched = touchSession p s := rfl
    rw [← isPartKind_iff, htouched, Bool.not_eq_true]
    exact ⟨fun h => acceptFrame_of_partKind h s, fun h => acceptFrame_of_request h s⟩
  · rw [requestArrival_full hfresh hfull, ← any_isLinkReply_iff]
    refine ⟨fun h => if_pos h, fun h => if_neg fun hany => ?_⟩
    obtain ⟨r, hr⟩ := any_isLinkReply_iff.1 hany
    exact h r hr

/-! ### A frame sent in byte by byte (R154, R169) -/

/-- What the clocking of a byte does before the byte reaches the receiver: Port B shifts one out (R153). -/
def clocked : Port → State → State
  | .a, s => s
  | .b, s => clockOut (readyPortB s)

theorem exec_receiveByte (p : Port) (b : Byte) (s : State) :
    exec (.receiveByte p b false) s = .next (takeByte p b (clocked p s)) := by
  cases p <;> rfl

/-- From `s` to `t` no request comes to port `p` or leaves it, and nothing is raised or recorded. -/
structure ArrivalsKept (p : Port) (s t : State) : Prop where
  requests : (t.ports.get p).requests = (s.ports.get p).requests
  inHand : (t.ports.get p).inHand = (s.ports.get p).inHand
  exceptions : t.exceptions = s.exceptions
  journal : t.journal = s.journal

theorem ArrivalsKept.trans {p : Port} {s t u : State} (h : ArrivalsKept p s t) (h' : ArrivalsKept p t u) :
    ArrivalsKept p s u :=
  ⟨h'.requests.trans h.requests, h'.inHand.trans h.inHand, h'.exceptions.trans h.exceptions,
    h'.journal.trans h.journal⟩

/-- On Port B no request comes into hand. -/
theorem ArrivalsKept.not_inHand {p : Port} {s t : State} (h : ArrivalsKept p s t)
    (hfree : p = .b → s.ports.b.inHand = false) (hp : p = .b) : t.ports.b.inHand = false := by
  subst hp
  exact h.inHand.trans (hfree rfl)

theorem ArrivalsKept.setReceiver (p : Port) (r : Receiver) (s : State) : ArrivalsKept p s (setReceiver p r s) where
  requests := by simp [Machine.setReceiver]
  inHand := by simp [Machine.setReceiver]
  exceptions := rfl
  journal := rfl

/-- With no request in hand, a frame that begins takes none off the queue. -/
theorem PortState.releaseRequest_of_not_inHand {x : PortState} (h : x.inHand = false) (f : Frame) :
    x.releaseRequest f = x := by
  unfold PortState.releaseRequest
  split
  · rw [h, if_neg Bool.false_ne_true]
  · rfl

/-- With no request in hand, a frame that begins moves from the waiting frames into transmission, and nothing else. -/
theorem beginFrame_of_not_inHand {p : Port} {s : State} (h : (s.ports.get p).inHand = false) :
    ∃ waiting sending, beginFrame p s =
      s.setPort p { s.ports.get p with waiting := waiting, sending := sending } := by
  unfold beginFrame
  split
  · exact ⟨_, _, congrArg (s.setPort p) (PortState.releaseRequest_of_not_inHand (by exact h) _)⟩
  · exact ⟨_, _, (setPort_get_self s p).symm⟩

theorem readyPortB_of_not_inHand {s : State} (h : s.ports.b.inHand = false) :
    ∃ waiting sending, readyPortB s = s.setPort .b { s.ports.b with waiting := waiting, sending := sending } := by
  unfold readyPortB
  split
  · exact beginFrame_of_not_inHand (p := .b) h
  · split
    · exact beginFrame_of_not_inHand (p := .b) (s := s.setPort .b { s.ports.b with sending := none }) h
    · exact ⟨_, _, (setPort_get_self s .b).symm⟩

/-- The byte that leaves touches the SPI target and the frame in transmission. -/
theorem ports_clockOut (s : State) :
    ∃ sending, (clockOut s).ports = s.ports.set .b { s.ports.b with sending := sending } := by
  unfold clockOut
  split
  · exact ⟨_, (PerPort.set_get_self s.ports .b).symm⟩
  · exact ⟨_, rfl⟩

theorem ports_clocked {p : Port} {s : State} (h : p = .b → s.ports.b.inHand = false) :
    ∃ waiting sending, (clocked p s).ports.get p =
      { s.ports.get p with waiting := waiting, sending := sending } := by
  cases p with
  | a => exact ⟨_, _, rfl⟩
  | b =>
    obtain ⟨waiting, sending, hready⟩ := readyPortB_of_not_inHand (h rfl)
    obtain ⟨sending', hout⟩ := ports_clockOut (readyPortB s)
    refine ⟨waiting, sending', ?_⟩
    rw [clocked, hout, hready]
    rfl

theorem ArrivalsKept.clocked {p : Port} {s : State} (h : p = .b → s.ports.b.inHand = false) :
    ArrivalsKept p s (clocked p s) := by
  obtain ⟨waiting, sending, hport⟩ := ports_clocked h
  refine ⟨by rw [hport], by rw [hport], ?_, ?_⟩ <;> cases p <;> simp [Machine.clocked]

theorem receiver_clocked {p : Port} {s : State} (h : p = .b → s.ports.b.inHand = false) :
    ((clocked p s).ports.get p).receiver = (s.ports.get p).receiver := by
  obtain ⟨waiting, sending, hport⟩ := ports_clocked h
  rw [hport]

/-- A byte reaches a receiver in state `r` as one more byte of its collection. -/
theorem exec_receiveByte_of_receiver {p : Port} {s : State} {r : Receiver} (hfree : p = .b → s.ports.b.inHand = false)
    (hr : (s.ports.get p).receiver = r) (b : Byte) :
    exec (.receiveByte p b false) s = .next (feed p (r.buffer ++ [b]) (clocked p s)) := by
  rw [exec_receiveByte, takeByte, receiver_clocked hfree, hr]

/-- The rest of a collection, sent in byte by byte: as long as each run of bytes short of the whole stays a collection,
the whole is accepted. -/
theorem runAll_receiveByte {p : Port} {q : Request} {kept rest : List Byte} {s : State} (hrest : rest ≠ [])
    (hr : (s.ports.get p).receiver = .collecting kept) (hfree : p = .b → s.ports.b.inHand = false)
    (hopen : ∀ pre suf, suf ≠ [] → pre ++ suf = kept ++ rest → collect pre = .incomplete)
    (hwhole : collect (kept ++ rest) = .good q (kept ++ rest).length) :
    ∃ u, ArrivalsKept p s u ∧
      runAll (rest.map fun b => .receiveByte p b false) s = .next (feed p [] (acceptFrame p q u)) := by
  induction rest generalizing kept s with
  | nil => exact absurd rfl hrest
  | cons b bs ih =>
    have hstep := exec_receiveByte_of_receiver hfree hr b
    have hsplit : kept ++ b :: bs = kept ++ [b] ++ bs := by simp
    by_cases hbs : bs = []
    · subst hbs
      refine ⟨clocked p s, .clocked hfree, ?_⟩
      have hfeed := feed_good hwhole p (clocked p s)
      rw [List.drop_length] at hfeed
      rw [List.map_cons, List.map_nil, runAll, hstep]
      exact congrArg Host.Outcome.next hfeed
    · have hkept : ArrivalsKept p s (setReceiver p (.collecting (kept ++ [b])) (clocked p s)) :=
        (ArrivalsKept.clocked hfree).trans (.setReceiver p _ _)
      have hnext : exec (.receiveByte p b false) s = .next (setReceiver p (.collecting (kept ++ [b])) (clocked p s)) :=
        hstep.trans (congrArg Host.Outcome.next (feed_incomplete (hopen (kept ++ [b]) bs hbs hsplit.symm) p _))
      rw [hsplit] at hopen hwhole
      obtain ⟨u, hu, hrun⟩ := ih hbs (s := setReceiver p (.collecting (kept ++ [b])) (clocked p s))
        (by simp [setReceiver]) (hkept.not_inHand hfree) hopen hwhole
      refine ⟨u, hkept.trans hu, ?_⟩
      rw [List.map_cons, runAll, hnext]
      exact hrun

/-- The two bytes of the CRC, high byte first (R169). -/
theorem beBytes_two (c : BitVec 16) : ∃ hi lo : Byte, beBytes 2 c.toNat = [hi, lo] ∧ c = hi ++ lo := by
  refine ⟨_, _, rfl, BitVec.eq_of_toNat_eq ?_⟩
  rw [← fieldInt_two]
  exact ((ofBytes_beBytes 2 c.toNat).trans (Nat.mod_eq_of_lt c.isLt)).symm

/-- The bytes of a frame after its SYNC byte are accepted as its request, and no fewer bytes are (Table 10-1, R169). -/
theorem wireFrame_collects {payload : List Byte} (kind tag : Byte) (hlen : payload.length ≤ 250) :
    ∃ body, wireFrame kind tag payload = 0xC3 :: body ∧ body ≠ [] ∧
      collect body = .good ⟨kind, tag, payload⟩ body.length ∧
      ∀ pre suf, suf ≠ [] → pre ++ suf = body → collect pre = .incomplete := by
  obtain ⟨hi, lo, hbytes, hcrc⟩ := beBytes_two (crc16 (frameBody kind tag payload))
  obtain ⟨len, hlenByte⟩ : ∃ len, len = byteOf payload.length := ⟨_, rfl⟩
  have hval : payload.length = len.toNat := by
    rw [hlenByte, byteOf, BitVec.toNat_ofNat, Nat.mod_eq_of_lt (by omega)]
  have hbody : frameBody kind tag payload = len :: kind :: tag :: payload := by rw [frameBody, hlenByte]
  rw [hbody] at hcrc
  refine ⟨len :: kind :: tag :: (payload ++ [hi, lo]), ?_, by simp, ?_, fun pre suf hsuf hpre => ?_⟩
  · rw [wireFrame, hbytes, hbody]
    rfl
  · rw [collect_whole (by omega) hval, if_pos hcrc]
    simp [hval]
  · cases pre with
    | nil => rfl
    | cons x xs =>
      obtain ⟨rfl, htail⟩ := List.cons.inj hpre
      have hshort : xs.length + suf.length = payload.length + 4 := by
        simpa using congrArg List.length htail
      have hpos := List.length_pos_iff.2 hsuf
      exact collect_short (by omega) (by omega)

theorem requests_touchSession (p : Port) (s : State) :
    ((touchSession p s).ports.get p).requests = (s.ports.get p).requests := by
  unfold touchSession
  split
  · rfl
  · simp

/-- A request with a tag of its own joins a request queue with room (R155, R156). -/
theorem requests_acceptFrame {p : Port} {q : Request} {s : State} (hkind : isPartKind q.kind = false)
    (hroom : (s.ports.get p).requests.length < 4) (htag : q.tag = 0 ∨ ∀ r ∈ (s.ports.get p).requests, r.tag ≠ q.tag) :
    ((acceptFrame p q s).ports.get p).requests = (s.ports.get p).requests ++ [q] := by
  have hfresh : ¬ ((touchSession p s).ports.get p).hasTag q.tag := by
    rw [PortState.hasTag, requests_touchSession]
    rintro ⟨hne, r, hr, hrt⟩
    exact htag.elim hne fun h => h r hr hrt
  rw [acceptFrame_of_request hkind, requestArrival_room hfresh (by rwa [requests_touchSession]), requests_touchSession]
  simp

/-- Settles O8: SYNC starts a collection, the bytes short of the whole leave it open, and the last one has the frame
accepted. -/
theorem sentFrameArrivesAsItsRequest : Obligations.SentFrameArrivesAsItsRequest := by
  intro p s kind tag payload hlen hkind hr hroom htag hfree
  obtain ⟨body, hwire, hbody, hwhole, hopen⟩ := wireFrame_collects kind tag hlen
  have hsync : exec (.receiveByte p 0xC3 false) s = .next (setReceiver p (.collecting []) (clocked p s)) :=
    (exec_receiveByte_of_receiver hfree hr 0xC3).trans (congrArg Host.Outcome.next (feed_incomplete rfl p _))
  have hstart : ArrivalsKept p s (setReceiver p (.collecting []) (clocked p s)) :=
    (ArrivalsKept.clocked hfree).trans (.setReceiver p _ _)
  obtain ⟨u, hu, hrun⟩ := runAll_receiveByte (p := p) (kept := []) hbody (by simp [setReceiver])
    (hstart.not_inHand hfree) hopen hwhole
  have hsu := hstart.trans hu
  refine ⟨feed p [] (acceptFrame p ⟨kind, tag, payload⟩ u), ?_, ?_, ?_, ?_, ?_, ?_⟩
  · rw [hwire, List.map_cons, runAll, hsync]
    exact hrun
  · have hjoined := requests_acceptFrame (p := p) (q := ⟨kind, tag, payload⟩) (s := u) hkind
      (by rwa [hsu.requests]) (by rwa [hsu.requests])
    rw [feed_nil, (ArrivalsKept.setReceiver p _ _).requests, hjoined, hsu.requests]
  · simp [feed_nil, setReceiver]
  · simp [feed_nil, setReceiver]
  · simp [feed_nil, hsu.exceptions]
  · simp [hsu.journal]

end Sys2Proof.Machine
end

section
/-!
PROOFS. O7, O10: the transmitter's pick, the beginning and the completion of a frame (R157, R159), the byte that Port B
shifts out, and nATTN (R153).
-/
namespace Sys2Proof.Machine

/-! ### The pick (R159) -/

theorem le_foldl_rank {n : Nat} {fs : List Frame} {m : Nat} :
    n ≤ fs.foldl (fun m f => min m f.rank) m ↔ n ≤ m ∧ ∀ g ∈ fs, n ≤ g.rank := by
  induction fs generalizing m with
  | nil => simp
  | cons f fs ih => rw [List.foldl_cons, ih, List.forall_mem_cons, Nat.le_min, and_assoc]

theorem rank_le_five (f : Frame) : f.rank ≤ 5 := by cases f <;> simp [Frame.rank]

/-- The best rank is that of a frame which no frame outranks. -/
theorem bestRank_eq {fs : List Frame} {f : Frame} (hf : f ∈ fs) (hbest : ∀ g ∈ fs, f.rank ≤ g.rank) :
    bestRank fs = f.rank :=
  Nat.le_antisymm ((le_foldl_rank.1 (Nat.le_refl (bestRank fs))).2 f hf) (le_foldl_rank.2 ⟨rank_le_five f, hbest⟩)

/-- The first frame of the best kind is picked, and the others stay waiting. -/
theorem pick_append {f : Frame} {pre post : List Frame} (hpre : ∀ g ∈ pre, f.rank < g.rank)
    (hpost : ∀ g ∈ post, f.rank ≤ g.rank) :
    pick (pre ++ f :: post) = some f ∧ afterPick (pre ++ f :: post) = pre ++ post := by
  have hbest : bestRank (pre ++ f :: post) = f.rank := by
    refine bestRank_eq (by simp) fun g hg => ?_
    rcases List.mem_append.1 hg with hg | hg
    · exact Nat.le_of_lt (hpre g hg)
    · rcases List.mem_cons.1 hg with rfl | hg
      · exact Nat.le_refl _
      · exact hpost g hg
  have hworse : ∀ g ∈ pre, (g.rank == f.rank) = false := fun g hg => beq_eq_false_iff_ne.2 (hpre g hg).ne'
  have hnone : pre.find? (fun g => g.rank == f.rank) = none :=
    List.find?_eq_none.2 fun g hg => Bool.eq_false_iff.1 (hworse g hg)
  rw [pick, afterPick, hbest]
  refine ⟨?_, eraseFirst_append hworse (beq_self_eq_true f.rank)⟩
  rw [List.find?_append, hnone, Option.none_or]
  exact List.find?_cons_of_pos (beq_self_eq_true f.rank)

/-! ### A frame begins (R157, R159) -/

theorem beginFrame_busy {p : Port} {s : State} {x : Sending} (h : (s.ports.get p).sending = some x) :
    beginFrame p s = s := by
  simp only [beginFrame, h]

theorem beginFrame_empty {p : Port} {s : State} (h : (s.ports.get p).waiting = []) : beginFrame p s = s := by
  simp [beginFrame, h, pick]

theorem beginFrame_append {p : Port} {s : State} {f : Frame} {pre post : List Frame}
    (hidle : (s.ports.get p).sending = none) (hwaiting : (s.ports.get p).waiting = pre ++ f :: post)
    (hpre : ∀ g ∈ pre, f.rank < g.rank) (hpost : ∀ g ∈ post, f.rank ≤ g.rank) :
    beginFrame p s = s.setPort p
      ({ s.ports.get p with waiting := pre ++ post, sending := some ⟨f, 0⟩ }.releaseRequest f) := by
  obtain ⟨hpick, hafter⟩ := pick_append hpre hpost
  simp only [beginFrame, hidle, hwaiting, hpick, hafter]

@[simp] theorem PortState.releaseRequest_sending (x : PortState) (f : Frame) :
    (x.releaseRequest f).sending = x.sending := by
  unfold PortState.releaseRequest
  repeat' split
  all_goals rfl

/-- A frame that is no reply of the session layer leaves the request queue as it is. -/
theorem PortState.releaseRequest_of_not_reply {x : PortState} {f : Frame} (h : ∀ r, f ≠ .reply false r) :
    x.releaseRequest f = x := by
  unfold PortState.releaseRequest
  split
  · next r => exact absurd rfl (h r)
  · rfl

/-! ### A frame completes (R159) -/

theorem exec_transmitFrameComplete {p : Port} {s : State} {x : Sending} (hx : (s.ports.get p).sending = some x)
    (hrestart : s.restart = none) (straps : Straps) :
    exec (.transmitFrameComplete p straps) s =
      .next (if x.finished p then s.setPort p { s.ports.get p with sending := none } else s) := by
  simp [exec, execTransmitFrameComplete, hx, restartAfter, hrestart]

theorem exec_transmitFrameComplete_idle {p : Port} {s : State} (hx : (s.ports.get p).sending = none)
    (straps : Straps) : exec (.transmitFrameComplete p straps) s = .next s := by
  simp only [exec, execTransmitFrameComplete, hx]

/-- Settles O10: the pick among the waiting frames, the request that a begun reply takes off the queue, and completion.
-/
theorem transmitterPicksByKind : Obligations.TransmitterPicksByKind := by
  intro p s straps
  refine ⟨fun f pre post hidle hwaiting hpre hpost => ?_, fun x hx hdone hrestart => ?_⟩
  · have hbegin := beginFrame_append hidle hwaiting hpre hpost
    refine ⟨_, congrArg Host.Outcome.next hbegin, by simp, by simp, fun hf => ?_, fun r hf hin => ?_⟩
    · rw [PortState.releaseRequest_of_not_reply hf]
    · subst hf
      exact congrArg (s.setPort p) (if_pos hin)
  · have hfinished : x.finished p = true := by
      cases p with
      | a => rfl
      | b => exact decide_eq_true (hdone rfl)
    rw [exec_transmitFrameComplete hx hrestart, if_pos hfinished]

/-! ### nATTN (R153) -/

/-- A frame of the port is in transmission with bytes still to clock out. -/
def PortState.Unsent (x : PortState) : Prop :=
  ∃ f sent, x.sending = some ⟨f, sent⟩ ∧ sent < f.bytes.length

theorem PortState.unsent_iff {x : PortState} {f : Frame} {sent : Nat} (h : x.sending = some ⟨f, sent⟩) :
    x.Unsent ↔ sent < f.bytes.length := by
  refine ⟨fun ⟨g, n, hg, hn⟩ => ?_, fun hlt => ⟨f, sent, h, hlt⟩⟩
  obtain ⟨rfl, rfl⟩ := Sending.mk.inj (Option.some.inj (h.symm.trans hg))
  exact hn

theorem PortState.not_unsent_of_idle {x : PortState} (h : x.sending = none) : ¬ x.Unsent :=
  fun ⟨_, _, hf, _⟩ => nomatch h.symm.trans hf

/-- nATTN is low while a frame waits on Port B or one has bytes to clock out. -/
theorem nAttnLow_iff (s : State) : s.nAttnLow = true ↔ s.ports.b.waiting ≠ [] ∨ s.ports.b.Unsent := by
  rw [State.nAttnLow, Bool.or_eq_true, Bool.not_eq_true', List.isEmpty_eq_false_iff]
  refine or_congr_right ?_
  cases hx : s.ports.b.sending with
  | none => simp [PortState.not_unsent_of_idle hx]
  | some x => rw [PortState.unsent_iff (f := x.frame) (sent := x.sent) hx, decide_eq_true_iff]

/-- Two states drive nATTN alike when they agree on whether a frame waits or has bytes to clock out. -/
theorem nAttnLow_congr {s t : State}
    (h : (t.ports.b.waiting ≠ [] ∨ t.ports.b.Unsent) ↔ (s.ports.b.waiting ≠ [] ∨ s.ports.b.Unsent)) :
    t.nAttnLow = s.nAttnLow :=
  Bool.eq_iff_iff.2 ((nAttnLow_iff t).trans (h.trans (nAttnLow_iff s).symm))

/-- Every frame has its SYNC byte first and bytes after it (Table 10-1). -/
theorem Frame.bytes_eq (f : Frame) : ∃ b bs, f.bytes = 0xC3 :: b :: bs := by
  simp only [Frame.bytes, wireFrame, frameBody, List.cons_append]
  exact ⟨_, _, rfl⟩

/-- The first waiting frame of the best kind, with the frames before and after it. -/
theorem exists_pick {fs : List Frame} (h : fs ≠ []) :
    ∃ f pre post, fs = pre ++ f :: post ∧ (∀ g ∈ pre, f.rank < g.rank) ∧ ∀ g ∈ post, f.rank ≤ g.rank := by
  induction fs with
  | nil => exact absurd rfl h
  | cons x xs ih =>
    by_cases hx : ∀ g ∈ xs, x.rank ≤ g.rank
    · exact ⟨x, [], xs, rfl, List.forall_mem_nil _, hx⟩
    · push Not at hx
      obtain ⟨g, hg, hgx⟩ := hx
      obtain ⟨f, pre, post, rfl, hpre, hpost⟩ := ih (List.ne_nil_of_mem hg)
      have hfx : f.rank < x.rank := by
        rcases List.mem_append.1 hg with hg | hg
        · exact (hpre g hg).trans hgx
        · rcases List.mem_cons.1 hg with rfl | hg
          · exact hgx
          · exact (hpost g hg).trans_lt hgx
      exact ⟨f, x :: pre, post, rfl, List.forall_mem_cons.2 ⟨hfx, hpre⟩, hpost⟩

/-- A frame that begins was waiting and has all its bytes to clock out, so nATTN stays as it is. -/
theorem nAttnLow_beginFrame (s : State) : (beginFrame .b s).nAttnLow = s.nAttnLow := by
  cases hx : s.ports.b.sending with
  | some x => rw [beginFrame_busy (p := .b) hx]
  | none =>
    by_cases hw : s.ports.b.waiting = []
    · rw [beginFrame_empty (p := .b) hw]
    · obtain ⟨f, pre, post, hfs, hpre, hpost⟩ := exists_pick hw
      obtain ⟨b, bs, hbytes⟩ := f.bytes_eq
      have hunsent : (beginFrame .b s).ports.b.Unsent := by
        refine ⟨f, 0, ?_, by simp [hbytes]⟩
        rw [beginFrame_append (p := .b) hx hfs hpre hpost]
        simp
      exact nAttnLow_congr (iff_of_true (.inr hunsent) (.inl hw))

/-- A frame that completes has no byte to clock out, so nATTN stays as it is. -/
theorem nAttnLow_transmitFrameComplete {s : State} (hrestart : s.restart = none) (straps : Straps) :
    ∃ t, exec (.transmitFrameComplete .b straps) s = .next t ∧ t.nAttnLow = s.nAttnLow := by
  cases hx : s.ports.b.sending with
  | none => exact ⟨s, exec_transmitFrameComplete_idle (p := .b) hx straps, rfl⟩
  | some x =>
    refine ⟨_, exec_transmitFrameComplete (p := .b) hx hrestart straps, ?_⟩
    split
    · next hfinished =>
      have hsent : ¬ s.ports.b.Unsent := by
        rw [PortState.unsent_iff (f := x.frame) (sent := x.sent) hx]
        exact Nat.not_lt.2 (of_decide_eq_true hfinished)
      have hidle : ¬ (s.setPort .b { s.ports.b with sending := none }).ports.b.Unsent :=
        PortState.not_unsent_of_idle rfl
      exact nAttnLow_congr (or_congr .rfl (iff_of_false hidle hsent))
    · rfl

/-! ### The byte that Port B shifts out (R153) -/

/-- With bytes of a frame still to clock out, the transmitter stays with that frame. -/
theorem readyPortB_unsent {s : State} {f : Frame} {sent : Nat} (hx : s.ports.b.sending = some ⟨f, sent⟩)
    (hlt : sent < f.bytes.length) : readyPortB s = s := by
  simp [readyPortB, hx, Sending.finished, hlt]

/-- An idle transmitter, or one whose frame has all its bytes out, picks from the waiting frames (logs 13, 14). -/
theorem readyPortB_free {s : State} (h : s.ports.b.sending = none ∨
    s.restart = none ∧ ∃ f sent, s.ports.b.sending = some ⟨f, sent⟩ ∧ f.bytes.length ≤ sent) :
    readyPortB s = beginFrame .b (s.setPort .b { s.ports.b with sending := none }) := by
  rcases h with hx | ⟨hrestart, f, sent, hx, hle⟩
  · have hself : s.setPort .b { s.ports.b with sending := none } = s := by
      rw [← hx]
      exact setPort_get_self s .b
    rw [hself]
    simp only [readyPortB, hx]
  · simp [readyPortB, hx, Sending.finished, hle, State.resetAwaits, hrestart]

theorem clockOut_idle {s : State} (hx : s.ports.b.sending = none) : clockOut s = { s with spi := ⟨true, 0x00⟩ } := by
  simp only [clockOut, hx]

theorem clockOut_unsent {s : State} {f : Frame} {sent : Nat} (hx : s.ports.b.sending = some ⟨f, sent⟩)
    (hlt : sent < f.bytes.length) : clockOut s = { s with
      spi := ⟨true, f.bytes[sent]⟩
      ports := s.ports.set .b { s.ports.b with sending := some ⟨f, sent + 1⟩ } } := by
  simp [clockOut, hx, hlt]

theorem selected_clockOut (s : State) : (clockOut s).spi.selected = true := by
  unfold clockOut
  split <;> rfl

/-! ### The byte that Port B takes leaves the transmitter alone (R154 to R156) -/

@[simp] theorem PortState.noticed_sending (t : ExceptionTable) (x : PortState) : (x.noticed t).sending = x.sending := by
  unfold PortState.noticed
  repeat' split
  all_goals rfl

theorem sending_raise (kind : ExceptionKind) (subject : ExceptionSubject) (p : Port) (s : State) :
    ((raise kind subject s).ports.get p).sending = (s.ports.get p).sending := by
  rw [ports_raise]
  split <;> simp

theorem sending_requestArrival (p : Port) (q : Request) (s : State) :
    ((requestArrival p q s).ports.get p).sending = (s.ports.get p).sending := by
  unfold requestArrival State.queueFrame
  dsimp only
  repeat' split
  all_goals simp

theorem sending_touchSession (p : Port) (s : State) :
    ((touchSession p s).ports.get p).sending = (s.ports.get p).sending := by
  unfold touchSession
  split <;> simp

theorem sending_rxEvent (p : Port) (s : State) (e : RxEvent) :
    ((rxEvent p s e).ports.get p).sending = (s.ports.get p).sending := by
  cases e with
  | discard => exact sending_raise _ _ p s
  | accept q =>
    rw [rxEvent, acceptFrame]
    split
    · exact sending_touchSession p s
    · exact (sending_requestArrival p q _).trans (sending_touchSession p s)

theorem sending_feed (p : Port) (bs : List Byte) (s : State) :
    ((feed p bs s).ports.get p).sending = (s.ports.get p).sending := by
  have hevents := foldl_keeps (fun t : State => (t.ports.get p).sending) (rxEvent p) (sending_rxEvent p) (scan 0 bs).1 s
  simpa [feed, setReceiver] using hevents

/-- A byte clocked on Port B: the transmitter makes ready, shifts a byte out, and is then left alone. -/
theorem exec_receiveByte_b (s : State) (b : Byte) : ∃ t, exec (.receiveByte .b b false) s = .next t ∧
    t.spi = (clockOut (readyPortB s)).spi ∧ t.ports.b.sending = (clockOut (readyPortB s)).ports.b.sending :=
  ⟨_, rfl, by simp [takeByte], sending_feed .b _ _⟩

/-- Settles O7: the byte shifted out by what is in transmission and what waits, and nATTN under each event of Port B. -/
theorem portBShiftsOneByteOut : Obligations.PortBShiftsOneByteOut := by
  refine ⟨fun s b bits => ⟨rfl, ?_⟩, ?_⟩
  · obtain ⟨t, ht, hspi, hsending⟩ := exec_receiveByte_b s b
    refine ⟨t, ht, by rw [hspi, selected_clockOut], fun f sent hx hlt => ?_, fun hfree => ⟨fun hw => ?_, ?_⟩⟩
    · rw [readyPortB_unsent hx hlt, clockOut_unsent hx hlt] at hspi hsending
      exact ⟨by rw [hspi], hsending, by rw [nAttnLow_iff, PortState.unsent_iff hsending]⟩
    · rw [readyPortB_free hfree, beginFrame_empty (by simpa using hw), clockOut_idle rfl] at hspi hsending
      have hsent : t.ports.b.sending = none := hsending
      exact ⟨by rw [hspi], hsent, by rw [nAttnLow_iff, or_iff_left (PortState.not_unsent_of_idle hsent)]⟩
    · intro f pre post hfs hpre hpost
      obtain ⟨c, cs, hbytes⟩ := f.bytes_eq
      have hbegin :=
        beginFrame_append (p := .b) (s := s.setPort .b { s.ports.b with sending := none }) rfl hfs hpre hpost
      have hx : (readyPortB s).ports.b.sending = some ⟨f, 0⟩ := by
        rw [readyPortB_free hfree, hbegin]
        simp
      have hpos : 0 < f.bytes.length := by simp [hbytes]
      rw [clockOut_unsent hx hpos] at hspi hsending
      have hsent : t.ports.b.sending = some ⟨f, 1⟩ := hsending
      refine ⟨by simp [hspi, hbytes], hsent, (nAttnLow_iff t).2 (.inr ?_)⟩
      rw [PortState.unsent_iff hsent, hbytes]
      simp
  · intro s straps f leaves unsent
    refine ⟨nAttnLow_iff s, (nAttnLow_iff _).2 (.inl (by simp)), (nAttnLow_iff _).trans (or_congr ?_ ?_),
      ⟨_, rfl, nAttnLow_beginFrame s⟩, fun hrestart => nAttnLow_transmitFrameComplete hrestart straps⟩
    · simp
    · simp [PortState.Unsent, unsent]

end Sys2Proof.Machine
end

section
/-!
PROOFS. O11, O14 to O16: the session layer's checks before a block is asked (R157), IDENTIFY and PING (R161, R172), the
claim (R165) and RESTART (R166).
-/
namespace Sys2Proof.Machine

/-! ### The checks before a block is asked (R157) -/

theorem takeRequest_of_none {p : Port} {s : State} (h : s.takable p = none) (wanted : Byte → Bool)
    (carry : Request → State → Answer) : takeRequest p wanted carry s = s := by
  simp only [takeRequest, h]

/-- Case 1 of R157: a repeat is answered from the store. -/
theorem takeRequest_repeat {p : Port} {s : State} {q : Request} {r : Reply} {wanted : Byte → Bool}
    (hq : s.takable p = some q) (hwanted : wanted q.kind = true) (hr : s.storedReply p q = some r)
    (carry : Request → State → Answer) :
    takeRequest p wanted carry s = (s.putInHand p).queueFrame p (.reply false r) := by
  simp only [takeRequest, hq, hwanted, if_true, storedReply_putInHand, hr]

/-- A request that is no repeat is carried out and answered. -/
theorem takeRequest_fresh {p : Port} {s : State} {q : Request} {wanted : Byte → Bool}
    {carry : Request → State → Answer} {t : State} {status : Status} {body : ReplyBody}
    (hq : s.takable p = some q) (hwanted : wanted q.kind = true) (hr : s.storedReply p q = none)
    (hcarry : carry q (s.putInHand p) = (t, status, body)) :
    takeRequest p wanted carry s = t.replied p q status body := by
  simp only [takeRequest, hq, hwanted, if_true, storedReply_putInHand, hr, hcarry, State.replied]

theorem sessionless_iff {k : RequestKind} : k.sessionless = true ↔ k = .identify ∨ k = .openSession := by
  cases k <;> decide

/-- Case 3 of R157: no session is open for a kind that needs one. -/
theorem carryOut_noSession {p : Port} {k : RequestKind} {s : State} (hs : (s.ports.get p).session = none)
    (hk : k.sessionless = false) (block : List Byte → State → Answer) (q : Request) :
    carryOut p k block q s = refuse .noSession s := by
  simp [carryOut, hs, hk]

/-- Case 4 of R157: the length is not that of the kind. -/
theorem carryOut_badLength {p : Port} {k : RequestKind} {s : State} {q : Request}
    (hs : (s.ports.get p).session.isSome = true ∨ k.sessionless = true) (hlen : q.payload.length ≠ k.length)
    (block : List Byte → State → Answer) : carryOut p k block q s = refuse .badLength s := by
  have hpasses : ¬ ((s.ports.get p).session.isNone && !k.sessionless) = true := by
    rcases hs with hs | hs
    · simp [Option.isNone_eq_false_iff.2 hs]
    · simp [hs]
  rw [carryOut, if_neg hpasses, if_pos hlen]

/-- A request that does not pass to its block is not held back for a call's action (R49), so its row takes it. -/
theorem exec_request_of_not_passes {c : Instr} {p : Port} {k : RequestKind} {s : State} (hc : requestOf c = some (p, k))
    (h : s.passesToBlock p k = false) : ∃ block, exec c s = .next (request p k block s) := by
  obtain ⟨block, hblock⟩ := exec_request hc
  refine ⟨block, (hblock s).elim And.right fun ⟨⟨hk, _, hpasses⟩, _⟩ => ?_⟩
  rw [hk, hpasses] at h
  exact nomatch h

/-- Settles O16: a repeat, an unknown kind, a missing session and a wrong length, each with nothing else changed. -/
theorem requestChecksComeInOrder : Obligations.RequestChecksComeInOrder := by
  intro p s q hq
  refine ⟨fun c k hc hkind => ?_, fun hunknown => ?_⟩
  · have hwanted : (q.kind == k.code) = true := beq_iff_eq.2 hkind
    refine ⟨fun r hr => ?_, fun hr hs hidentify hopen => ?_, fun hr hs hlen => ?_⟩
    · obtain ⟨block, hexec⟩ := exec_request_of_not_passes hc (s := s) (by simp [State.passesToBlock, hq, hr])
      rw [hexec, request, takeRequest_repeat hq hwanted hr]
    · have hk : k.sessionless = false :=
        Bool.eq_false_iff.2 fun h => (sessionless_iff.1 h).elim hidentify hopen
      obtain ⟨block, hexec⟩ := exec_request_of_not_passes hc (s := s) (by simp [State.passesToBlock, hq, hs, hk])
      rw [hexec, request, takeRequest_fresh hq hwanted hr
        (carryOut_noSession ((session_putInHand s p p).trans hs) hk block q)]
    · obtain ⟨block, hexec⟩ := exec_request_of_not_passes hc (s := s) (by simp [State.passesToBlock, hq, hlen])
      have hpasses : ((s.putInHand p).ports.get p).session.isSome = true ∨ k.sessionless = true := by
        rwa [session_putInHand, sessionless_iff]
      rw [hexec, request, takeRequest_fresh hq hwanted hr (carryOut_badLength hpasses hlen block)]
  · have hwanted : (!isRequestKind q.kind) = true := by rw [hunknown]; rfl
    exact ⟨fun r hr => congrArg Host.Outcome.next (takeRequest_repeat hq hwanted hr _),
      fun hr => congrArg Host.Outcome.next (takeRequest_fresh hq hwanted hr rfl)⟩

/-! ### IDENTIFY and PING (R161, R172) -/

/-- Settles O11: the two replies, byte by byte. -/
theorem identifyAndPingReply : Obligations.IdentifyAndPingReply := by
  intro p s q
  refine ⟨fun hq => ⟨⟨q.kind, q.tag, .ok,
      .identify s.resetCause s.clock.uptime ((s.ports.get p).session.map (·.number))⟩, ?_, hq.kind, rfl, ?_⟩,
    fun hq => ⟨⟨q.kind, q.tag, .ok, .uptime s.clock.uptime⟩, congrArg Host.Outcome.next (request_of_block hq rfl),
      hq.kind, rfl, ?_⟩⟩
  · refine congrArg Host.Outcome.next (request_of_block hq ?_)
    rw [identifyBlock, session_putInHand]
    rfl
  · rw [hq.kind]
    cases (s.ports.get p).session <;> rfl
  · rw [hq.kind]
    rfl

/-! ### The claim (R165) -/

theorem holdsClaim_of_own {s : State} {p : Port} {ses : Session} (hs : (s.ports.get p).session = some ses)
    (h : s.claim = some ⟨p, ses.number⟩) : s.holdsClaim p = true := by
  simp [State.holdsClaim, hs, h]

theorem holdsClaim_of_other {s : State} {p : Port} {h : Holder} (hc : s.claim = some h) (hp : h.port ≠ p) :
    s.holdsClaim p = false := by
  unfold State.holdsClaim
  split
  · rw [hc]
    exact beq_eq_false_iff_ne.2 fun he => hp (congrArg Holder.port (Option.some.inj he))
  · rfl

theorem holdsClaim_of_free {s : State} (hc : s.claim = none) (p : Port) : s.holdsClaim p = false := by
  unfold State.holdsClaim
  split
  · rw [hc]
    rfl
  · rfl

theorem claimState_of_free {s : State} (hc : s.claim = none) (p : Port) : s.claimState p = .free := by
  simp only [State.claimState, hc]

theorem claimState_of_other {s : State} {p : Port} {h : Holder} (hc : s.claim = some h) (hp : h.port ≠ p) :
    s.claimState p = .heldByOther := by
  simp only [State.claimState, hc, if_neg hp]

theorem claimBlock_free {s : State} {p : Port} {ses : Session} (hs : (s.ports.get p).session = some ses)
    (hc : s.claim = none) (bs : List Byte) :
    claimBlock p bs s = ({ s with claim := some ⟨p, ses.number⟩ }, .ok, .claim .held) := by
  simp only [claimBlock, hc, hs]

theorem claimBlock_own {s : State} {p : Port} {ses : Session} (hs : (s.ports.get p).session = some ses)
    (hc : s.claim = some ⟨p, ses.number⟩) (bs : List Byte) : claimBlock p bs s = (s, .ok, .claim .held) := by
  simp only [claimBlock, hc, holdsClaim_of_own hs hc, if_true]

theorem claimBlock_other {s : State} {p : Port} {h : Holder} (hc : s.claim = some h) (hp : h.port ≠ p)
    (bs : List Byte) : claimBlock p bs s = (s, .heldByOther, .claim .heldByOther) := by
  simp only [claimBlock, hc, holdsClaim_of_other hc hp, claimState_of_other hc hp, if_neg Bool.false_ne_true]

theorem releaseBlock_own {s : State} {p : Port} (hc : s.holdsClaim p = true) (bs : List Byte) :
    releaseBlock p bs s = ({ s with claim := none }, .ok, .claim .free) := if_pos hc

theorem releaseBlock_not_own {s : State} {p : Port} (hc : s.holdsClaim p = false) (bs : List Byte) :
    releaseBlock p bs s = (s, .notClaimant, .claim (s.claimState p)) := if_neg (Bool.eq_false_iff.1 hc)

/-- A request that needs the claim is refused to a session without it, before its block looks at it (Table 9-3). -/
theorem exec_notClaimant {c : Instr} {p : Port} {k : RequestKind} {s : State} {q : Request}
    (hc : requestOf c = some (p, k)) (hk : k.needsClaim = true) (hq : Ready s p k q) (hclaim : s.holdsClaim p = false)
    (hwaits : k = .closeIncident → s.inAction = false) :
    exec c s = .next ((s.putInHand p).replied p q .notClaimant .none) := by
  obtain ⟨carry, hcarry⟩ := exec_claimed hc hk
  rcases hcarry s with ⟨_, hexec⟩ | ⟨⟨hclose, haction, _⟩, _⟩
  · rw [hexec, request_of_block hq]
    rw [withClaim, holdsClaim_putInHand, hclaim, if_neg Bool.false_ne_true, refuse]
  · exact nomatch (hwaits hclose).symm.trans haction

/-- Settles O14: CLAIM and RELEASE with the claim free, held by the session and held by the other port's, and the
requests refused to a session without it. -/
theorem claimHasOneHolder : Obligations.ClaimHasOneHolder := by
  refine ⟨fun p s q ses hs => ?_, fun c p k s q hc hk hq hclaim hwaits => exec_notClaimant hc hk hq hclaim hwaits⟩
  have hsession : ((s.putInHand p).ports.get p).session = some ses := by rw [session_putInHand, hs]
  refine ⟨fun hq => ?_, fun hq => ?_⟩
  · have hanswer {t : State} {status : Status} {body : ReplyBody}
        (h : claimBlock p q.payload (s.putInHand p) = (t, status, body)) :
        exec (.claim p) s = .next (t.replied p q status body) :=
      congrArg Host.Outcome.next (request_of_block hq h)
    exact ⟨fun hfree => hanswer (claimBlock_free hsession hfree _),
      fun hown => hanswer (claimBlock_own hsession hown _),
      fun h hheld hother => hanswer (claimBlock_other (s := s.putInHand p) hheld hother _)⟩
  · have hanswer {t : State} {status : Status} {body : ReplyBody}
        (h : releaseBlock p q.payload (s.putInHand p) = (t, status, body)) :
        exec (.releaseClaim p) s = .next (t.replied p q status body) :=
      congrArg Host.Outcome.next (request_of_block hq h)
    have hrefused (h : s.holdsClaim p = false) {claim : ClaimState} (hclaim : s.claimState p = claim) :
        exec (.releaseClaim p) s = .next ((s.putInHand p).replied p q .notClaimant (.claim claim)) :=
      hanswer (hclaim ▸ releaseBlock_not_own ((holdsClaim_putInHand s p p).trans h) _)
    exact ⟨fun hfree => hrefused (holdsClaim_of_free hfree p) (claimState_of_free hfree p),
      fun hown => hanswer (releaseBlock_own (holdsClaim_of_own hsession hown) _),
      fun h hheld hother => hrefused (holdsClaim_of_other hheld hother) (claimState_of_other hheld hother)⟩

/-! ### RESTART (R166) -/

theorem takable_of_restart {s : State} (h : s.restart.isSome = true) (p : Port) : s.takable p = none := by
  rw [State.takable, h, Bool.true_or, if_pos rfl]

theorem restartOptionOf_eq_none {n : Nat} (h : 1 < n) : restartOptionOf n = none := by
  unfold restartOptionOf
  split
  · omega
  · omega
  · rfl

/-- An option of RESTART starts the restart timer (R166). -/
theorem restartBlock_some {p : Port} {s : State} {bs : List Byte} {o : RestartOption} (hc : s.holdsClaim p = true)
    (ho : restartOptionOf (fieldByte bs 0) = some o) :
    restartBlock p bs s = ({ s with restart := some ⟨s.clock.uptime + 50000, o, p⟩ }, .ok, .none) := by
  rw [restartBlock, withClaim, if_pos hc, ho]
  rfl

theorem restartBlock_none {p : Port} {s : State} {bs : List Byte} (hc : s.holdsClaim p = true)
    (ho : restartOptionOf (fieldByte bs 0) = none) : restartBlock p bs s = refuse .badValue s := by
  rw [restartBlock, withClaim, if_pos hc, ho]

/-- Settles O15: the two options that start the timer and the others, and that no request is taken while it runs. -/
theorem restartStopsRequests : Obligations.RestartStopsRequests := by
  refine ⟨fun p s q b hq hclaim hpayload => ?_, fun c s hrestart hc => ?_⟩
  · have hbyte : fieldByte q.payload 0 = b.toNat := by rw [hpayload]; rfl
    have hholds : (s.putInHand p).holdsClaim p = true := by rw [holdsClaim_putInHand, hclaim]
    have hanswer {t : State} {status : Status} {body : ReplyBody}
        (h : restartBlock p q.payload (s.putInHand p) = (t, status, body)) :
        exec (.restart p) s = .next (t.replied p q status body) :=
      congrArg Host.Outcome.next (request_of_block hq h)
    exact ⟨fun h => hanswer (restartBlock_some hholds (by rw [hbyte, h]; rfl)),
      fun h => hanswer (restartBlock_some hholds (by rw [hbyte, h]; rfl)),
      fun h => hanswer (restartBlock_none hholds (by rw [hbyte, restartOptionOf_eq_none h]))⟩
  · have hnone := takable_of_restart hrestart
    rcases hc with hsome | ⟨p, rfl⟩
    · obtain ⟨⟨p, k⟩, hrow⟩ := Option.isSome_iff_exists.1 hsome
      obtain ⟨block, hexec⟩ := exec_request_of_not_passes hrow (s := s) (by simp only [State.passesToBlock, hnone p])
      rw [hexec, request, takeRequest_of_none (hnone p)]
    · exact congrArg Host.Outcome.next (takeRequest_of_none (hnone p) _ _)

end Sys2Proof.Machine
end

section
/-!
PROOFS. O23: the lengths of the records' fields, bodies and headers (R174, Tables 10-8 and 10-9), and of a frame of
records.
-/
namespace Sys2Proof.Machine

/-! ### Field lengths (R170, Table 10-3) -/

@[simp] theorem length_seqBytes (n : Seq) : (seqBytes n).length = 4 := length_beBytes 4 _

@[simp] theorem length_generationBytes (g : Generation) : (generationBytes g).length = 2 := length_beBytes 2 _

@[simp] theorem length_lineSetBytes (s : LineSet) : (lineSetBytes s).length = 4 := length_beBytes 4 _

@[simp] theorem length_signedBytes (n : Nat) (v : Int) : (signedBytes n v).length = n := length_beBytes n _

@[simp] theorem length_timeBytes (t : TimeOfDay) : (timeBytes t).length = 7 := by simp [timeBytes]

@[simp] theorem length_stampBytes (s : Stamp) : (stampBytes s).length = 8 := by simp [stampBytes]

/-! ### Record lengths (R174) -/

/-- The body length that Table 10-9 gives the kind. -/
def RecordBody.tableLength : RecordBody → Nat
  | .lineChange _ _ _ _ => 5
  | .chatterOn _ _ _ _ => 4
  | .chatterOff _ _ _ _ => 4
  | .incidentClose _ => 35
  | .overflow _ => 25
  | .timeSet _ _ _ => 15
  | .timeStep _ => 4
  | .qualityChange _ _ => 2
  | .rulesetSwitch _ _ _ => 5
  | .snapshot _ _ _ _ => 13
  | .cleared _ _ => 10
  | .restarted _ _ => 2

/-- The bytes of a body fill its kind's length; CLEARED pads an absent range with zeros. -/
theorem RecordBody.length_bytes (b : RecordBody) : b.bytes.length = b.tableLength := by
  cases b with
  | cleared removed range =>
    cases range with
    | none => simp [bytes, tableLength]
    | some r => simp [bytes, tableLength]
  | _ => simp [bytes, tableLength]

/-- INCIDENT_CLOSE has the longest body. -/
theorem RecordBody.tableLength_le (b : RecordBody) : b.tableLength ≤ 35 := by
  cases b <;> simp [tableLength]

/-- The header is 17 bytes, its length byte among them (Table 10-8). -/
theorem Record.length_bytes (r : Record) : r.bytes.length = 17 + r.body.bytes.length := by
  simp only [Record.bytes, List.length_cons, List.length_append, List.length_nil, length_seqBytes, length_stampBytes,
    length_generationBytes]
  omega

theorem Record.head?_bytes (r : Record) : r.bytes.head? = some (BitVec.ofNat 8 r.bytes.length) := by
  rw [r.length_bytes]
  rfl

theorem Record.length_bytes_le (r : Record) : r.bytes.length ≤ 52 := by
  rw [r.length_bytes, r.body.length_bytes]
  exact Nat.add_le_add_left r.body.tableLength_le 17

theorem length_recordsBytes_le (rs : List Record) : (recordsBytes rs).length ≤ 1 + rs.length * 52 := by
  have hsum : (rs.map fun r => r.bytes.length).sum ≤ rs.length * 52 := by
    simpa using List.sum_le_card_nsmul (rs.map fun r => r.bytes.length) 52 (by simp [Record.length_bytes_le])
  rw [recordsBytes, List.length_cons, List.length_flatMap]
  omega

/-- Settles O23: the header counts the whole record, the body has its kind's length, and four of the longest records
with their count byte are 209 bytes. -/
theorem recordsHaveTheirLengths : Obligations.RecordsHaveTheirLengths := by
  refine ⟨fun r => ⟨r.head?_bytes, ?_⟩, fun rs hrs => ?_⟩
  · rw [r.length_bytes, r.body.length_bytes]
    rfl
  · calc (Frame.records rs).payload.length
        _ ≤ 1 + rs.length * 52 := length_recordsBytes_le rs
        _ ≤ 250 := by omega

end Sys2Proof.Machine
end

section
/-!
PROOFS. One step and the queue of waiting commands: the command in front is run with the rest waiting, and every command
answers a next state with the queue as it was.
-/
namespace Sys2Proof.Machine

/-! ### The command in front -/

/-- Settles O1: of the two cases of a step, the one with a command in front. -/
theorem stepRunsCommandInFront : Obligations.StepRunsCommandInFront := by
  intro c rest s h
  unfold step
  rw [h]

/-! ### Blocks of the requests leave the queue -/

/-- A request step leaves the queue of waiting commands, if its block does (R157). -/
theorem pending_request {s : State} {p : Port} {k : RequestKind} {block : List Byte → State → Answer}
    (hb : ∀ bs t, (block bs t).1.pending = t.pending) : (request p k block s).pending = s.pending :=
  request_keeps State.pending (fun _ _ => rfl) hb

/-- A block that needs the claim leaves the queue, if what it does with the claim does (R165). -/
theorem pending_withClaim {p : Port} {s : State} {a : Answer} (h : a.1.pending = s.pending) :
    (withClaim p s a).1.pending = s.pending :=
  withClaim_keeps State.pending h

theorem pending_openBlock (p : Port) (bs : List Byte) (s : State) : (openBlock p bs s).1.pending = s.pending := by
  unfold openBlock
  (repeat' split) <;> simp [refuse]

theorem pending_claimBlock (p : Port) (bs : List Byte) (s : State) : (claimBlock p bs s).1.pending = s.pending := by
  unfold claimBlock
  (repeat' split) <;> rfl

theorem pending_releaseBlock (p : Port) (bs : List Byte) (s : State) : (releaseBlock p bs s).1.pending = s.pending := by
  unfold releaseBlock
  split <;> rfl

theorem pending_restartBlock (p : Port) (bs : List Byte) (s : State) :
    (restartBlock p bs s).1.pending = s.pending := by
  refine pending_withClaim ?_
  split <;> rfl

theorem pending_readRecordsBlock (bs : List Byte) (s : State) : (readRecordsBlock bs s).1.pending = s.pending := by
  unfold readRecordsBlock
  (repeat' split) <;> rfl

theorem pending_setJournalModeBlock (p : Port) (bs : List Byte) (s : State) :
    (setJournalModeBlock p bs s).1.pending = s.pending := by
  refine pending_withClaim ?_
  unfold setMode
  (repeat' split) <;> rfl

theorem pending_subscribeBlock (p : Port) (bs : List Byte) (s : State) :
    (subscribeBlock p bs s).1.pending = s.pending := by
  unfold subscribeBlock
  (repeat' split) <;> simp [refuse]

theorem pending_resumeBlock (p : Port) (bs : List Byte) (s : State) : (resumeBlock p bs s).1.pending = s.pending := by
  unfold resumeBlock
  dsimp only
  split <;> simp [refuse]

theorem pending_ackReader (p : Port) (r : Subscription) (n : Seq) (s : State) :
    (ackReader p r n s).1.pending = s.pending := by
  unfold ackReader
  (repeat' split) <;> simp

theorem pending_ackBlock (p : Port) (bs : List Byte) (s : State) : (ackBlock p bs s).1.pending = s.pending := by
  unfold ackBlock
  (repeat' split) <;> simp [refuse, pending_ackReader]

theorem pending_dropReaderBlock (p : Port) (bs : List Byte) (s : State) :
    (dropReaderBlock p bs s).1.pending = s.pending := by
  refine pending_withClaim ?_
  split <;> simp [refuse]

theorem pending_listIncidentsBlock (bs : List Byte) (s : State) :
    (listIncidentsBlock bs s).1.pending = s.pending := by
  unfold listIncidentsBlock
  split <;> rfl

theorem pending_closeIncidentBlock (p : Port) (bs : List Byte) (s : State) :
    (closeIncidentBlock p bs s).1.pending = s.pending := by
  refine pending_withClaim ?_
  (repeat' split) <;> simp [refuse]

theorem pending_takeSnapshotBlock (p : Port) (bs : List Byte) (s : State) :
    (takeSnapshotBlock p bs s).1.pending = s.pending := by
  unfold takeSnapshotBlock
  split <;> rfl

theorem pending_setTimeBlock (p : Port) (bs : List Byte) (s : State) :
    (setTimeBlock p bs s).1.pending = s.pending := by
  refine pending_withClaim ?_
  split <;> simp [refuse]

theorem pending_setTimeOptionsBlock (p : Port) (bs : List Byte) (s : State) :
    (setTimeOptionsBlock p bs s).1.pending = s.pending := by
  refine pending_withClaim ?_
  (repeat' split) <;> simp [refuse]

theorem pending_readRuleBlock (bs : List Byte) (s : State) : (readRuleBlock bs s).1.pending = s.pending := by
  unfold readRuleBlock
  split <;> rfl

theorem pending_editStaged (edit : Bank → Bank) (s : State) : (editStaged edit s).1.pending = s.pending := by
  unfold editStaged
  split <;> rfl

theorem pending_writeLineRuleBlock (p : Port) (bs : List Byte) (s : State) :
    (writeLineRuleBlock p bs s).1.pending = s.pending := by
  refine pending_withClaim ?_
  split <;> simp [refuse, pending_editStaged]

theorem pending_writeGroupRuleBlock (p : Port) (bs : List Byte) (s : State) :
    (writeGroupRuleBlock p bs s).1.pending = s.pending := by
  refine pending_withClaim ?_
  split <;> simp [refuse, pending_editStaged]

theorem pending_writeGlobalRuleBlock (p : Port) (bs : List Byte) (s : State) :
    (writeGlobalRuleBlock p bs s).1.pending = s.pending := by
  refine pending_withClaim ?_
  split <;> simp [refuse, pending_editStaged]

theorem pending_switchRulesBlock (p : Port) (bs : List Byte) (s : State) :
    (switchRulesBlock p bs s).1.pending = s.pending := by
  refine pending_withClaim ?_
  split <;> rfl

theorem pending_abortSwitchBlock (p : Port) (bs : List Byte) (s : State) :
    (abortSwitchBlock p bs s).1.pending = s.pending := by
  refine pending_withClaim ?_
  split <;> simp [refuse]

theorem pending_clearAlertBlock (bs : List Byte) (s : State) : (clearAlertBlock bs s).1.pending = s.pending := by
  unfold clearAlertBlock
  (repeat' split) <;> rfl

theorem pending_applyAlertFrames (p : Port) (was now : Bool) (s : State) :
    (applyAlertFrames p was now s).pending = s.pending := by
  unfold applyAlertFrames
  split <;> rfl

theorem pending_applyNotices (p : Port) (ses : Session) (was now : Bool) (s : State) :
    (applyNotices p ses was now s).pending = s.pending := by
  unfold applyNotices
  (repeat' split) <;> simp

theorem pending_setSessionOptionsBlock (p : Port) (bs : List Byte) (s : State) :
    (setSessionOptionsBlock p bs s).1.pending = s.pending := by
  unfold setSessionOptionsBlock
  split
  · rfl
  · rfl
  · exact (pending_applyNotices _ _ _ _ _).trans (pending_applyAlertFrames _ _ _ _)

theorem pending_clearExceptionBlock (bs : List Byte) (s : State) :
    (clearExceptionBlock bs s).1.pending = s.pending := by
  unfold clearExceptionBlock
  split
  · rfl
  · dsimp only
    split <;> simp

/-! ### Every command -/

/-- A reset leaves the queue of waiting commands (log 21). -/
@[simp] theorem resetPart_pending (cause : ResetCause) (straps : Straps) (s : State) :
    (resetPart cause straps s).pending = s.pending := rfl

/-- No command's meaning ends in a fault or a refusal. -/
theorem exec_completes (c : Instr) (s : State) : ∃ t, exec c s = .next t := by
  cases c <;> exact ⟨_, rfl⟩

/-- The entry or marker in hand, or the one taken, is built from with the queue left (R113 to R118). -/
theorem pending_execClassifierTakeEntry {s t : State} (ht : execClassifierTakeEntry s = .next t) :
    t.pending = s.pending := by
  obtain rfl := Host.Outcome.next.inj ht
  split
  · exact (carryOn_frame _ _).1
  · rfl
  · rfl
  · simp

/-- A completed frame leaves the queue, also where the reset of a RESTART follows it (R159, R166, log 21). -/
theorem pending_execTransmitFrameComplete {p : Port} {straps : Straps} {s t : State}
    (ht : execTransmitFrameComplete p straps s = .next t) : t.pending = s.pending := by
  obtain rfl := Host.Outcome.next.inj ht
  split
  · rfl
  · split
    · unfold restartAfter
      (repeat' split) <;> rfl
    · rfl

/-- No command touches the queue of waiting commands. -/
theorem pending_exec {c : Instr} {s t : State} (ht : exec c s = .next t) : t.pending = s.pending := by
  cases c
  case classifierTakeEntry => exact pending_execClassifierTakeEntry ht
  case transmitFrameComplete p straps => exact pending_execTransmitFrameComplete ht
  all_goals obtain rfl := Host.Outcome.next.inj ht
  -- The events that always take place.
  case powerOnReset | pinReset | selectionEnd => rfl
  case transmitFrameBegin | heldEntryAdmission | holdoverTimerExpiry => simp
  -- The events that take place under a condition (log 2).
  case restartTimerExpiry | gapTimerExpiry | sessionTimerExpiry | retransmitTimerExpiry | quietTimerExpiry
      | durationTimerExpiry | sampleInstant | chatterWindowExpiry | releaseTimerExpiry | deferredSnapshotBuild
      | syncEdge | missingPulseTimerExpiry | validationCompletion | switchInstant | queueGapFrame =>
    (repeat' split) <;> simp
  case queueRecordsFrame =>
    dsimp only
    (repeat' split) <;> rfl
  case receiveByte p b stopLow =>
    cases p with
    | a =>
      dsimp only
      split <;> simp
    | b => simp
  -- The requests.
  case unknownKindRequest p =>
    exact takeRequest_induct (motive := fun t => t.pending = s.pending) (fun _ => id) (fun _ _ => id)
      (fun _ _ => id) (fun _ _ => id) rfl
  case identify | ping | getJournalStatus | getLines | getTime | getSwitchStatus | getExceptions =>
    exact pending_request fun _ _ => rfl
  case openSession p => exact pending_request (pending_openBlock p)
  case closeSession p => exact pending_request fun _ t => (endSession_frame p t).1
  case claim p => exact pending_request (pending_claimBlock p)
  case releaseClaim p => exact pending_request (pending_releaseBlock p)
  case restart p => exact pending_request (pending_restartBlock p)
  case readRecords p => exact pending_request pending_readRecordsBlock
  case clearJournal p => exact pending_request fun _ t => pending_withClaim (clearJournal_frame t).1
  case setJournalMode p => exact pending_request (pending_setJournalModeBlock p)
  case subscribe p => exact pending_request (pending_subscribeBlock p)
  case resume p => exact pending_request (pending_resumeBlock p)
  case unsubscribe p => exact pending_request fun _ t => (endReader_frame p t).1
  case ack p => exact pending_request (pending_ackBlock p)
  case dropReader p => exact pending_request (pending_dropReaderBlock p)
  case listIncidents p => exact pending_request pending_listIncidentsBlock
  case closeIncident p =>
    split
    · rfl
    · exact pending_request (pending_closeIncidentBlock p)
  case takeSnapshot p => exact pending_request (pending_takeSnapshotBlock p)
  case setTime p => exact pending_request (pending_setTimeBlock p)
  case setTimeOptions p => exact pending_request (pending_setTimeOptionsBlock p)
  case readRule p => exact pending_request pending_readRuleBlock
  case writeLineRule p => exact pending_request (pending_writeLineRuleBlock p)
  case writeGroupRule p => exact pending_request (pending_writeGroupRuleBlock p)
  case writeGlobalRule p => exact pending_request (pending_writeGlobalRuleBlock p)
  case copyActiveToStaged p => exact pending_request fun _ t => pending_withClaim (pending_editStaged _ t)
  case switchRules p => exact pending_request (pending_switchRulesBlock p)
  case abortSwitch p => exact pending_request (pending_abortSwitchBlock p)
  case clearAlert p => exact pending_request pending_clearAlertBlock
  case setSessionOptions p => exact pending_request (pending_setSessionOptionsBlock p)
  case clearException p => exact pending_request pending_clearExceptionBlock

/-- Settles O3: no arm of `exec` ends in a fault or a refusal, and what each does leaves the queue. -/
theorem everyCommandCompletes : Obligations.EveryCommandCompletes := by
  intro c s
  obtain ⟨t, ht⟩ := exec_completes c s
  exact ⟨t, ht, pending_exec ht⟩

end Sys2Proof.Machine
end
